-- ==== Sys2Proof/Word.lean ====
section
/-! DEFINITION. The word types of the FT857-CAT protocol codec block and their plainest accessors: bytes, the 32-bit
data word, the payload buffer and the command frame (spec 00 R9, R10; 10 R20 to R22). -/

namespace Sys2Proof

/-- A byte is 8 bits (R9). -/
abbrev Byte := BitVec 8

/-- The 32-bit unsigned value of DIN and RES (R8 `VAL_WIDTH`, R10). -/
abbrev Word := BitVec 32

/-- The 16-bit command word CMD (R49). -/
abbrev CmdWord := BitVec 16

/-- The payload buffer BUF[0..3] (R21). -/
abbrev Buf := Vector Byte 4

/-- The command frame FRAME[0..4] (R22). -/
abbrev Frame := Vector Byte 5

/-- `A[i]`, the byte at index `i` of a byte array (R9). No rule reads past the array's end; the 0 that stands
for such an index is never a value of the machine. -/
def byteAt {n : Nat} (a : Vector Byte n) (i : Nat) : Byte := a[i]?.getD 0

/-- One element of the receive port: `Byte(b)` or `Timeout` (R12, R31). -/
inductive RxElem where
  /-- The next byte the transport has received. -/
  | byte (b : Byte)
  /-- No byte arrived within `T_BYTE_TIMEOUT`. -/
  | timeout
  deriving DecidableEq, Repr, Inhabited

/-- The CW/meter field register CWF (R27): meter range, keyer enabled, break-in. -/
structure Cwf where
  mtr : BitVec 2
  key : Bool
  bk  : Bool
  deriving DecidableEq, Repr, Inhabited

/-- The AGC/DSP field register ADF (R28): AGC, DSP filter, noise reduction, noise filter. -/
structure Adf where
  agc : Bool
  dsp : Bool
  nr  : Bool
  nf  : Bool
  deriving DecidableEq, Repr, Inhabited

end Sys2Proof
end

