-- ==== Sys2Proof/Syntax.lean ====
section
/-! DEFINITION. The operations of the block: one constructor per row of spec/opcode_table.json (spec 30 R51). The fields
are those R51's table says the operation uses; a field an operation ignores (R52) is not in its constructor. -/

namespace Sys2Proof

/-- A block operation with its operands (R51). `n`, `l` are CMD.n, `opc` is CMD.opc, `w` and `v` are DIN. -/
inductive Instr where
  /-- R71. -/
  | nop
  /-- R72. -/
  | clr
  /-- R73. -/
  | ldb (w : Word)
  /-- R66. -/
  | enc (n : BitVec 4) (v : Word)
  /-- R67. -/
  | dec (n : BitVec 4)
  /-- R74. -/
  | frm (l : BitVec 4) (opc : Byte)
  /-- R78. -/
  | rack
  /-- R79. -/
  | rraw
  /-- R80. -/
  | rsmt
  /-- R81. -/
  | rtxs
  /-- R82. -/
  | rfrq
  /-- R83. -/
  | rmem
  /-- R84. -/
  | rcwm
  /-- R85. -/
  | ragc
  /-- The reserved code 0xE (R53). -/
  | reservedE
  /-- The reserved code 0xF (R53). -/
  | reservedF
  deriving DecidableEq, Repr

end Sys2Proof
end

