-- ==== Sys2Proof/Decode.lean ====
section
/-! DEFINITION. Decoding and encoding of the command word and its data word (spec 30 R49 to R54, R60). Every 16-bit word
decodes: the map of R51 has a row for each of the 16 codes, so there is no word for the decoder to reject; a reserved
code or field value is an operation that raises Illegal (R92). -/

namespace Sys2Proof

/-- CMD.op = CMD[3:0] (R49). -/
def cmdOp (cmd : CmdWord) : BitVec 4 := cmd.extractLsb' 0 4

/-- CMD.n = CMD[7:4] (R49). -/
def cmdN (cmd : CmdWord) : BitVec 4 := cmd.extractLsb' 4 4

/-- CMD.opc = CMD[15:8] (R49). -/
def cmdOpc (cmd : CmdWord) : Byte := cmd.extractLsb' 8 8

/-- The operation that a command word selects, with its data word (R51). -/
def decode (cmd : CmdWord) (din : Word) : Instr :=
  match (cmdOp cmd).toNat with
  | 0x0 => .nop
  | 0x1 => .clr
  | 0x2 => .ldb din
  | 0x3 => .enc (cmdN cmd) din
  | 0x4 => .dec (cmdN cmd)
  | 0x5 => .frm (cmdN cmd) (cmdOpc cmd)
  | 0x6 => .rack
  | 0x7 => .rraw
  | 0x8 => .rsmt
  | 0x9 => .rtxs
  | 0xA => .rfrq
  | 0xB => .rmem
  | 0xC => .rcwm
  | 0xD => .ragc
  | 0xE => .reservedE
  | _ => .reservedF

/-- The operation code of R51's map. -/
def Instr.opCode : Instr → BitVec 4
  | .nop => 0x0
  | .clr => 0x1
  | .ldb _ => 0x2
  | .enc _ _ => 0x3
  | .dec _ => 0x4
  | .frm _ _ => 0x5
  | .rack => 0x6
  | .rraw => 0x7
  | .rsmt => 0x8
  | .rtxs => 0x9
  | .rfrq => 0xA
  | .rmem => 0xB
  | .rcwm => 0xC
  | .ragc => 0xD
  | .reservedE => 0xE
  | .reservedF => 0xF

/-- The command word with the three fields of R49: `(opc << 8) | (n << 4) | op` (R60). -/
def mkCmd (opc : Byte) (n op : BitVec 4) : CmdWord :=
  (opc.setWidth 16 <<< 8) ||| (n.setWidth 16 <<< 4) ||| op.setWidth 16

/-- CMD and DIN of an operation as the assembler writes them: ignored fields are 0 (R60). -/
def encode : Instr → CmdWord × Word
  | .ldb w => (mkCmd 0 0 0x2, w)
  | .enc n v => (mkCmd 0 n 0x3, v)
  | .dec n => (mkCmd 0 n 0x4, 0)
  | .frm l opc => (mkCmd opc l 0x5, 0)
  | .nop => (mkCmd 0 0 0x0, 0)
  | .clr => (mkCmd 0 0 0x1, 0)
  | .rack => (mkCmd 0 0 0x6, 0)
  | .rraw => (mkCmd 0 0 0x7, 0)
  | .rsmt => (mkCmd 0 0 0x8, 0)
  | .rtxs => (mkCmd 0 0 0x9, 0)
  | .rfrq => (mkCmd 0 0 0xA, 0)
  | .rmem => (mkCmd 0 0 0xB, 0)
  | .rcwm => (mkCmd 0 0 0xC, 0)
  | .ragc => (mkCmd 0 0 0xD, 0)
  | .reservedE => (mkCmd 0 0 0xE, 0)
  | .reservedF => (mkCmd 0 0 0xF, 0)

/-- CMD and DIN of an instruction whose bits are `w`, bit 0 the least significant bit of CMD and DIN's bits counted
on from CMD's (CMD is bits 15..0, DIN is bits 47..16). Bits at `nbits` and above are 0. DESIGN CHOICE, log entry 4. -/
def wordPair (nbits w : Nat) : CmdWord × Word :=
  (BitVec.ofNat 16 (w % 2 ^ nbits), BitVec.ofNat 32 (w % 2 ^ nbits / 2 ^ 16))

/-- What the decoder reads from the `nbits` bits `w`. -/
def decodeTableWord (nbits w : Nat) : Option Instr :=
  some (decode (wordPair nbits w).1 (wordPair nbits w).2)

end Sys2Proof
end

