-- ==== Sys2Proof/Machine/Flags.lean ====
section
/-! DEFINITION. The fields of STAT and the flag computations (spec 10 R29; 60 R89 to R94; 40 R63; 42 R81). -/

namespace Sys2Proof.Machine

/-- The outcomes that an operation writes to STAT.ERR (R89). Code 3 is reserved and has no constructor. -/
inductive Err where
  | ok | timeout | illegal
  deriving DecidableEq, Repr

/-- The value of STAT.ERR for an outcome (R89). -/
def errCode : Err → Byte
  | .ok => 0
  | .timeout => 1
  | .illegal => 2

/-- STAT.ERR = STAT[1:0] (R29). -/
def statErr (stat : Byte) : BitVec 2 := stat.extractLsb' 0 2

/-- The outcome that a value of STAT.ERR stands for (R89); none for the reserved code 3, whose read is a fault (93 I14). -/
def errOf (code : BitVec 2) : Option Err :=
  if code = 0 then some .ok
  else if code = 1 then some .timeout
  else if code = 2 then some .illegal
  else none

/-- STAT.TRUNC = STAT[2] (R29). -/
def statTrunc (stat : Byte) : Bool := stat.getLsbD 2

/-- STAT.STICKY = STAT[3] (R29). -/
def statSticky (stat : Byte) : Bool := stat.getLsbD 3

/-- `STAT.ERR <- e`: one field written, the others kept (R11). -/
def setErr (e : Err) (stat : Byte) : Byte := (stat &&& 0xFC) ||| errCode e

/-- `STAT.TRUNC <- t` (R94). -/
def setTrunc (t : Bool) (stat : Byte) : Byte := (stat &&& 0xFB) ||| (if t then 0x04 else 0x00)

/-- `STAT.STICKY <- 1` (R93). -/
def setSticky (stat : Byte) : Byte := stat ||| 0x08

/-- STAT as its port shows it: bits [7:4] read as 0 (R29). -/
def statPort (stat : Byte) : Byte := stat &&& 0x0F

/-- `t <- (v >= 10^N)`, exact (R63, R94). -/
def truncates (v : Word) (N : Nat) : Bool := decide (10 ^ N ≤ v.toNat)

/-- `TXF <- (b0 = TX_SENTINEL) ? 0 : 1` (R81). -/
def transmitting (b sentinel : Byte) : Bool := !(b == sentinel)

end Sys2Proof.Machine
end

