-- ==== Sys2Proof/Config.lean ====
section
/-! DEFINITION. The implementation parameters of spec 00 R8: the fixed ones as numbers, the OPEN ones and the draws as
opaque constants, of which no proof can know the value. -/

namespace Sys2Proof

/-- The CAT commands whose opcode byte R8 names `OPC_*`. -/
inductive CatCommand where
  | lockOn | lockOff | pttOn | pttOff | freqSet | modeSet | clarOn | clarOff | vfoSwap | splitOn | splitOff
  | rptDirSet | rptOffsetSet | sqlModeSet | sqlToneSet | readFreqMode | readTxStatus | readRxStatus | eepromRead
  deriving DecidableEq, Repr

/-- The memory cells whose address pair R8 names `ADDR_*`. -/
inductive MemCell where
  | vfo | cwMeter | agcDsp | split
  deriving DecidableEq, Repr

/-- "bit position and polarity" of a flag in its memory byte (R8 `VFO_FIELD`, `SPLIT_FIELD`). -/
structure FlagField where
  bit        : Fin 8
  activeHigh : Bool
  deriving DecidableEq, Repr, Inhabited

/-- `N_MAX`: the most BCD digits that four payload bytes hold (R8, R54). -/
abbrev Config.nMax : Nat := 8

/-- `N_FREQ`: the digits of a frequency (R8). -/
abbrev Config.nFreq : Nat := 8

/-- `N_TONE`: the digits of a squelch tone (R8). -/
abbrev Config.nTone : Nat := 4

/-- `PAYLOAD_BYTES`: the payload bytes of a frame (R8, R54). -/
abbrev Config.payloadBytes : Nat := 4

/-- `T_BYTE_TIMEOUT` in milliseconds, a parameter of the transport (R8, R115). -/
abbrev Config.byteTimeoutMs : Nat := 2000

/-- `TX_SENTINEL`, OPEN (R8, R81). Log entry 9. -/
opaque Config.txSentinel : Byte

/-- `OPC_*`, OPEN (R8, R59). Log entry 9. -/
opaque Config.opc : CatCommand → Byte

/-- `ADDR_*`, OPEN: the (MSB, LSB) pair of each cell (R8, R37). Log entry 9. -/
opaque Config.addr : MemCell → Byte × Byte

/-- `VFO_FIELD`, OPEN (R8, R87). Log entry 9. -/
opaque Config.vfoField : FlagField

/-- `SPLIT_FIELD`, OPEN (R8, R87). Log entry 9. -/
opaque Config.splitField : FlagField

/-- `OFFSET_SCALE_WRAP`, OPEN: what the controller's multiply of `o` by 100 yields when the product does not
fit 32 bits (R8, 92 D39). Log entry 9. DESIGN CHOICE, log entry 15, unsafe: an offset of 32 bits, and a 32-bit result for
every offset that depends on the offset alone. -/
opaque Config.offsetScaleWrap : Word → Word

/-- `BUF_INIT`, the draw of reset number `n` (R8, R35). DESIGN CHOICE, log entry 1. -/
opaque Config.bufInit : Nat → Buf

/-- `FRAME_INIT` (R8, R35). DESIGN CHOICE, log entry 1. -/
opaque Config.frameInit : Nat → Frame

/-- `RES_INIT` (R8, R35). DESIGN CHOICE, log entry 1. -/
opaque Config.resInit : Nat → Word

/-- `TXF_INIT` (R8, R35). DESIGN CHOICE, log entry 1. -/
opaque Config.txfInit : Nat → Bool

/-- `STB_INIT` (R8, R35). DESIGN CHOICE, log entry 1. -/
opaque Config.stbInit : Nat → Byte

/-- `CWF_INIT` (R8, R35). DESIGN CHOICE, log entry 1. -/
opaque Config.cwfInit : Nat → Cwf

/-- `ADF_INIT` (R8, R35). DESIGN CHOICE, log entry 1. -/
opaque Config.adfInit : Nat → Adf

/-- The environment's free draw number `n` on the receive port: "the model admits any byte value and also admits
`Timeout` at every call" (R31). DESIGN CHOICE, log entry 2. -/
opaque Config.rxDraw : Nat → RxElem

end Sys2Proof
end

