-- ==== Sys2Proof/Machine/State.lean ====
section
/-! DEFINITION. The state of the block, of the environment behind its ports, and of the inputs still to come; the ways a
step can stop; the state after reset (spec 10 R20 to R35; 70 R103). -/

namespace Sys2Proof.Machine

/-- The output ports of R32. BUF has no port (R20's table). -/
inductive OutPort where
  | frameOut | fv | res | txf | stb | cwf | adf | stat
  deriving DecidableEq, Repr

/-- What can happen to the block from outside, each taken by one step (R7). Log entries 3, 5, 6, 7, 14. -/
inductive Event where
  /-- The controller presents a command word and a data word on the command port (R30). -/
  | op (cmd : CmdWord) (din : Word)
  /-- RST is asserted and released while no operation is under way (R103). -/
  | rst
  /-- The controller presents an operation, and RST is asserted when the operation has taken `taken` elements of its
  response (R104). -/
  | rstDuring (cmd : CmdWord) (din : Word) (taken : Nat)
  /-- `SEND`: the controller hands FRAME_OUT to the transport's `write` (R32, R60). -/
  | send
  /-- `FLUSH`: the controller calls the transport's `flush()` (R34, R60). -/
  | flush
  /-- The controller reads an output port, for what the register holds (R32, R105). -/
  | read (p : OutPort)
  /-- The controller takes what a result port shows as the result of the latest operation that writes that port's
  register (R113, 93 I8). On the other ports it is a read. -/
  | useResult (p : OutPort)
  /-- A byte reaches the transport's receive buffer (R34). -/
  | arrive (b : Byte)
  deriving DecidableEq, Repr

/-- The environment behind the receive port and the transport's `write` (R31, R32, R34). Log entry 2. -/
structure Env where
  /-- The transport's receive buffer: bytes received and not yet read, oldest first (R34, R45). -/
  rxBuf    : List Byte
  /-- The elements that `rx()` returns next once the buffer is empty: a byte that arrives during the wait, or Timeout. -/
  rxScript : List RxElem
  /-- The MODEL's own counter of the free draws that `rx()` has taken. -/
  rxDraws  : Nat
  /-- The bytes the transport has accepted for the radio, oldest first (R39). -/
  txLine   : List Byte
  deriving DecidableEq, Repr

/-- One flag for each result register: RES, TXF, STB, CWF, ADF (R105 step 5, R113). -/
structure ResultRegs where
  res : Bool
  txf : Bool
  stb : Bool
  cwf : Bool
  adf : Bool
  deriving DecidableEq, Repr

/-- The machine. `buf` to `stat` are the registers of R20; the rest is the environment, the model's own
bookkeeping and the inputs to come. -/
structure State where
  /-- BUF[0..3] (R21). -/
  buf     : Buf
  /-- FRAME[0..4] (R22). -/
  frame   : Frame
  /-- FV, frame valid (R23). -/
  fv      : Bool
  /-- RES (R24). -/
  res     : Word
  /-- TXF, 1 for transmitting (R25). -/
  txf     : Bool
  /-- STB, the trailing status byte (R26). -/
  stb     : Byte
  /-- CWF (R27). -/
  cwf     : Cwf
  /-- ADF (R28). -/
  adf     : Adf
  /-- STAT: ERR [1:0], TRUNC [2], STICKY [3], [7:4] read as 0 (R29). -/
  stat    : Byte
  /-- The MODEL's own record of the result registers that an operation has written since reset (R35, R105 step 5).
  Log entry 7. -/
  written : ResultRegs
  /-- The MODEL's own record of the result registers whose latest operation failed: they hold a value that is not its
  result (R113, 93 I8). Log entry 7. -/
  failed  : ResultRegs
  /-- How many resets there have been (the model's own). -/
  resets  : Nat
  /-- The transport and the radio. -/
  env     : Env
  /-- The events still to come, the next one first. -/
  inputs  : List Event
  deriving DecidableEq, Repr

/-- Why a step stops with a fault. Each is a fault of the controller, or of a state the spec calls unreachable; none is
an outcome of an operation. -/
inductive Fault where
  /-- Raised by SEND while FV = 0: "a model treats that as a fault of the controller" (R23, R105 step 4).
  Safe: the model stops where the hardware would send unspecified bytes. -/
  | sendWithoutFrame
  /-- Raised by the controller's read of a result port whose register no operation has written since reset: "a model
  faults the read" (R105 step 5; 93 I1; the second treatment of R35). No operation raises it: the register holds its draw. Safe: the model stops where the hardware would show an unspecified value. -/
  | readUnwritten (p : OutPort)
  /-- Raised when the controller uses a result register as the result of an operation that failed: "Using them as the
  failed operation's result is a **fault** of the controller" (93 I8, R113). Safe: the model stops where the hardware
  would show an older value. -/
  | staleResult (p : OutPort)
  /-- Raised by a port read of STAT with ERR = 3: "Reserved and never written ... If an implementation shows it, that is
  a **fault**" (93 I14). Safe: no reachable state has it. -/
  | reservedErr
  deriving DecidableEq, Repr

/-- Why a step gives an instruction no meaning. -/
inductive Refusal where
  /-- Raised by no arm: every row of the opcode table has its meaning. Safe: a refusal stops the run. -/
  | notModelled (mnemonic : String)
  deriving DecidableEq, Repr

/-- The machine right after power-on reset (R35, R103): STAT = 0x00, FV = 0, every other register its draw, nothing
written, no input pending. Log entries 1, 2, 3, 7. -/
def State.reset : State where
  buf     := Config.bufInit 0
  frame   := Config.frameInit 0
  fv      := false
  res     := Config.resInit 0
  txf     := Config.txfInit 0
  stb     := Config.stbInit 0
  cwf     := Config.cwfInit 0
  adf     := Config.adfInit 0
  stat    := 0x00
  written := ⟨false, false, false, false, false⟩
  failed  := ⟨false, false, false, false, false⟩
  resets  := 1
  env     := ⟨[], [], 0, []⟩
  inputs  := []

end Sys2Proof.Machine
end

