-- ==== Sys2Proof/Machine/Operands.lean ====
section
/-! DEFINITION. The operand forms of the operations: nibbles and digits, the lanes of a BCD field, the payload bytes of DIN,
the bit fields of a response byte, the values on the output ports, the number of response bytes (spec 00 R9, R10;
10 R27, R28; 20 R38, R40; 30 R51, R56, R58). -/

namespace Sys2Proof.Machine

/-- `hi(b) = b[7:4]` (R9). -/
def hiNibble (b : Byte) : BitVec 4 := b.extractLsb' 4 4

/-- `lo(b) = b[3:0]` (R9). -/
def loNibble (b : Byte) : BitVec 4 := b.extractLsb' 0 4

/-- `(hi << 4) | lo` (R56). -/
def packByte (hi lo : BitVec 4) : Byte := hi ++ lo

/-- The decimal digit `w mod 10` as a nibble (R63). -/
def digit (w : Nat) : BitVec 4 := BitVec.ofNat 4 (w % 10)

/-- `buf[i] <- b`; an index past the end changes nothing, and no rule names one. -/
def setByte (buf : Buf) (i : Nat) (b : Byte) : Buf := buf.setIfInBounds i b

/-- Digit lane `k` of a BCD field, counted from the most significant: byte `k div 2`, the high nibble when `k` is even
and the low nibble when `k` is odd (R38, R70). -/
def lane (buf : Buf) (k : Nat) : BitVec 4 :=
  if k % 2 = 0 then hiNibble (byteAt buf (k / 2)) else loNibble (byteAt buf (k / 2))

/-- `BUF[i] = DIN[31-8i : 24-8i]` (R40). -/
def dinBytes (w : Word) : Buf :=
  #v[w.extractLsb' 24 8, w.extractLsb' 16 8, w.extractLsb' 8 8, w.extractLsb' 0 8]

/-- `zext32` of a byte (R10). -/
def zext32 (b : Byte) : Word := b.setWidth 32

/-- The S-meter reading: bits [3:0] of the receive-status byte (R58, R80). -/
def smeterBits (b : Byte) : Byte := b &&& 0x0F

/-- The CW/meter fields of a memory value byte (R58, R84). -/
def cwfOf (b : Byte) : Cwf where
  mtr := b.extractLsb' 0 2
  key := b.getLsbD 4
  bk  := b.getLsbD 5

/-- The AGC/DSP fields of a memory value byte (R58, R85). -/
def adfOf (b : Byte) : Adf where
  agc := b.getLsbD 5
  dsp := b.getLsbD 2
  nr  := b.getLsbD 1
  nf  := b.getLsbD 0

/-- CWF as its port shows it: bits [1:0] = MTR, bit 2 = KEY, bit 3 = BK (R27). -/
def cwfPort (c : Cwf) : BitVec 4 := BitVec.ofBool c.bk ++ BitVec.ofBool c.key ++ c.mtr

/-- ADF as its port shows it: bit 0 = NF, bit 1 = NR, bit 2 = DSP, bit 3 = AGC (R28). -/
def adfPort (a : Adf) : BitVec 4 :=
  BitVec.ofBool a.agc ++ BitVec.ofBool a.dsp ++ BitVec.ofBool a.nr ++ BitVec.ofBool a.nf

/-- The number of elements an operation takes from the receive port (R51, last column). -/
def rxCount : Instr → Nat
  | .rack => 1
  | .rraw => 1
  | .rsmt => 1
  | .rtxs => 1
  | .rfrq => 5
  | .rmem => 2
  | .rcwm => 2
  | .ragc => 2
  | .nop => 0
  | .clr => 0
  | .ldb _ => 0
  | .enc _ _ => 0
  | .dec _ => 0
  | .frm _ _ => 0
  | .reservedE => 0
  | .reservedF => 0

/-- The result registers that an operation writes when it ends OK (R20, R113). -/
def resultRegs : Instr → ResultRegs
  | .dec _ => ⟨true, false, false, false, false⟩
  | .rraw => ⟨true, false, false, false, false⟩
  | .rsmt => ⟨true, false, false, false, false⟩
  | .rtxs => ⟨false, true, false, false, false⟩
  | .rfrq => ⟨true, false, true, false, false⟩
  | .rmem => ⟨true, false, false, false, false⟩
  | .rcwm => ⟨true, false, false, true, false⟩
  | .ragc => ⟨true, false, false, false, true⟩
  | .nop => ⟨false, false, false, false, false⟩
  | .clr => ⟨false, false, false, false, false⟩
  | .ldb _ => ⟨false, false, false, false, false⟩
  | .enc _ _ => ⟨false, false, false, false, false⟩
  | .frm _ _ => ⟨false, false, false, false, false⟩
  | .rack => ⟨false, false, false, false, false⟩
  | .reservedE => ⟨false, false, false, false, false⟩
  | .reservedF => ⟨false, false, false, false, false⟩

/-- The flag of the register on a result port; the other ports have none (R105 step 5). -/
def portFlag (r : ResultRegs) : OutPort → Option Bool
  | .res => some r.res
  | .txf => some r.txf
  | .stb => some r.stb
  | .cwf => some r.cwf
  | .adf => some r.adf
  | .frameOut => none
  | .fv => none
  | .stat => none

/-- The flags of the selected registers become `b`, the others stay. -/
def markRegs (sel : ResultRegs) (b : Bool) (r : ResultRegs) : ResultRegs where
  res := if sel.res then b else r.res
  txf := if sel.txf then b else r.txf
  stb := if sel.stb then b else r.stb
  cwf := if sel.cwf then b else r.cwf
  adf := if sel.adf then b else r.adf

/-- The longest an operation can block, in milliseconds: `k × T_BYTE_TIMEOUT` (R77, R115). -/
def maxBlockMs (i : Instr) : Nat := rxCount i * Config.byteTimeoutMs

end Sys2Proof.Machine
end

