-- ==== Sys2Proof/Machine/Ops.lean ====
section
/-! DEFINITION. The named operations over the state: register writes, the end of an operation, raising an exception, the
receive port, reset, and what the ports do (spec 00 R11 to R15; 10 R20 to R34; 42 R77; 60 R90 to R97; 70 R103 to R105). -/

namespace Sys2Proof.Machine

/-! ## Register writes (R11, R20) -/

/-- BUF <- b. -/
def State.setBuf (b : Buf) (s : State) : State := { s with buf := b }

/-- FRAME <- f and FV <- 1: only FRM writes the two, and it writes both (R22, R23). -/
def State.setFrame (f : Frame) (s : State) : State := { s with frame := f, fv := true }

/-- STAT <- b. -/
def State.setStat (b : Byte) (s : State) : State := { s with stat := b }

/-- RES <- v. -/
def State.setRes (v : Word) (s : State) : State := { s with res := v, written := { s.written with res := true } }

/-- TXF <- b. -/
def State.setTxf (b : Bool) (s : State) : State := { s with txf := b, written := { s.written with txf := true } }

/-- STB <- b. -/
def State.setStb (b : Byte) (s : State) : State := { s with stb := b, written := { s.written with stb := true } }

/-- CWF <- c. -/
def State.setCwf (c : Cwf) (s : State) : State := { s with cwf := c, written := { s.written with cwf := true } }

/-- ADF <- a. -/
def State.setAdf (a : Adf) (s : State) : State := { s with adf := a, written := { s.written with adf := true } }

/-- The environment after the block has acted on it. -/
def State.setEnv (e : Env) (s : State) : State := { s with env := e }

/-- The inputs still to come. -/
def State.setInputs (l : List Event) (s : State) : State := { s with inputs := l }

/-! ## The end of an operation (R15, R90 to R92) -/

/-- An operation that is not ended by `raise` ends by writing STAT.ERR <- OK (R15, R90). -/
def complete (s : State) : State := s.setStat (setErr .ok s.stat)

/-- The exceptions of the block (R89). -/
inductive Exc where
  | timeout | illegal
  deriving DecidableEq, Repr

/-- The outcome that an exception records (R89). -/
def Exc.err : Exc → Err
  | .timeout => .timeout
  | .illegal => .illegal

/-- TAKING AN EXCEPTION: `STAT.ERR <- x`, `STAT.STICKY <- 1`, and the operation ends (R91, R92). There is no vector, no
saved register and no mode to change (R97), and nothing to return from (R98): the next operation runs normally. -/
def raise (x : Exc) (s : State) : State := s.setStat (setSticky (setErr x.err s.stat))

/-- After an operation that fails, its result registers "still hold older values, which are not its results"; after one
that ends OK they hold its results (R113). The model's own record, log entry 7. -/
def State.noteOutcome (i : Instr) (s : State) : State :=
  { s with failed := markRegs (resultRegs i) (decide (statErr s.stat ≠ 0)) s.failed }

/-- The record kept after operation `i` ends in a next state. -/
def afterOp (i : Instr) : Host.Outcome State Fault Refusal → Host.Outcome State Fault Refusal
  | .next t => .next (t.noteOutcome i)
  | .fault f => .fault f
  | .refused r => .refused r

/-! ## The receive port (R12, R31, R45, R77) -/

/-- `rx()`: the next element of the receive port. A byte that waits in the transport's buffer comes first, in arrival
order (R34, R45); with the buffer empty the call waits, and the environment answers: the next element of its script,
or past the script a free draw (R31). DESIGN CHOICE, log entry 2. -/
def rx (e : Env) : RxElem × Env :=
  match e.rxBuf with
  | b :: bs => (.byte b, { e with rxBuf := bs })
  | [] =>
    match e.rxScript with
    | x :: xs => (x, { e with rxScript := xs })
    | [] => (Config.rxDraw e.rxDraws, { e with rxDraws := e.rxDraws + 1 })

/-- `for j in 0..k-1: b[j] <- rx_or_abort()` (R77): the `k` bytes, or none when an element is Timeout; and the
environment after the elements taken. No element after a Timeout is taken (R95). -/
def rxTake : Nat → Env → Option (List Byte) × Env
  | 0, e => (some [], e)
  | k + 1, e =>
    match rx e with
    | (.timeout, e1) => (none, e1)
    | (.byte b, e1) => ((rxTake k e1).1.map (b :: ·), (rxTake k e1).2)

/-- `b[j]` of a response's bytes (R77); `rxTake k` gives exactly `k` of them, so the default is never read. -/
def respByte (bs : List Byte) (j : Nat) : Byte := bs.getD j 0

/-- The state after a response operation with byte count `k` and result writes `f` (R77): with all `k` bytes, the
writes and OK; with a Timeout, the exception and no result write. -/
def respondState (k : Nat) (f : List Byte → State → State) (s : State) : State :=
  match rxTake k s.env with
  | (some bs, e) => complete (f bs (s.setEnv e))
  | (none, e) => raise .timeout (s.setEnv e)

/-- A response operation (R77). Each of its ends is a next state: a Timeout is an outcome in STAT. -/
def respond (k : Nat) (f : List Byte → State → State) (s : State) : Host.Outcome State Fault Refusal :=
  .next (respondState k f s)

/-- What is left of the receive stream when an operation with byte count `k` has taken `min taken k` elements, or has
ended before that at a Timeout (R104: "Elements it had already taken are lost"). -/
def envAfterTaking (k taken : Nat) (e : Env) : Env := (rxTake (min taken k) e).2

/-! ## Reset (R103, R104) -/

/-- RST: every register takes its value of R35, and the transport is not touched (R103). -/
def State.resetRegs (s : State) : State :=
  { s with
    buf     := Config.bufInit s.resets
    frame   := Config.frameInit s.resets
    fv      := false
    res     := Config.resInit s.resets
    txf     := Config.txfInit s.resets
    stb     := Config.stbInit s.resets
    cwf     := Config.cwfInit s.resets
    adf     := Config.adfInit s.resets
    stat    := 0x00
    written := ⟨false, false, false, false, false⟩
    failed  := ⟨false, false, false, false, false⟩
    resets  := s.resets + 1 }

/-- RST while operation `i` is under way: the operation makes none of its writes, the elements it took are lost, and
every register takes its value of R35 (R104). -/
def State.resetDuring (i : Instr) (taken : Nat) (s : State) : State :=
  (s.setEnv (envAfterTaking (rxCount i) taken s.env)).resetRegs

/-! ## The controller's and the transport's actions (R23, R32, R34, R105) -/

/-- `SEND`: the transport accepts the whole frame, byte 0 first (R32, R39, R42). With FV = 0 it is a fault of the
controller (R23, R105). DESIGN CHOICE, log entry 14: the write is one step, so no RST falls inside it; what the line
carries then is open, since R103 re-draws FRAME at any time and R112 calls it stable for the whole write. -/
def doSend (s : State) : Host.Outcome State Fault Refusal :=
  if s.fv then .next (s.setEnv { s.env with txLine := s.env.txLine ++ s.frame.toList })
  else .fault .sendWithoutFrame

/-- `FLUSH`: the transport discards what is buffered and not read (R34). -/
def doFlush (s : State) : State := s.setEnv { s.env with rxBuf := [] }

/-- A byte reaches the transport's receive buffer (R34). -/
def doArrive (b : Byte) (s : State) : State := s.setEnv { s.env with rxBuf := s.env.rxBuf ++ [b] }

/-- What an output port shows (R32). -/
inductive PortValue where
  | frame (f : Frame)
  | bit (b : Bool)
  | nibble (n : BitVec 4)
  | byte (b : Byte)
  | word (w : Word)
  deriving DecidableEq, Repr

/-- The value on an output port (R27, R28, R29, R32). -/
def State.portValue (s : State) : OutPort → PortValue
  | .frameOut => .frame s.frame
  | .fv => .bit s.fv
  | .res => .word s.res
  | .txf => .bit s.txf
  | .stb => .byte s.stb
  | .cwf => .nibble (cwfPort s.cwf)
  | .adf => .nibble (adfPort s.adf)
  | .stat => .byte (statPort s.stat)

/-- What the controller learns from STAT.ERR after an operation (R96, R99): the outcome that the STAT port shows. -/
def State.outcome (s : State) : Option Err := errOf (statErr (statPort s.stat))

/-- Why a read of a port stops, if it does: a result register that nothing has written since reset (R105 step 5, 93 I1),
or a STAT with the reserved ERR = 3 (93 I14). An older result is no reason: the register holds it (R113). -/
def State.readFault (s : State) (p : OutPort) : Option Fault :=
  if portFlag s.written p = some false then some (.readUnwritten p)
  else if p = .stat ∧ statErr s.stat = 3 then some .reservedErr
  else none

/-- Why using a port's value as the latest operation's result stops, if it does: the read stops, or that operation
failed (R113, 93 I8). -/
def State.useFault (s : State) (p : OutPort) : Option Fault :=
  match s.readFault p with
  | some f => some f
  | none => if portFlag s.failed p = some true then some (.staleResult p) else none

/-- A port access: no side effect (R43), or the controller's fault. -/
def portAccess (f : Option Fault) (s : State) : Host.Outcome State Fault Refusal :=
  match f with
  | none => .next s
  | some f => .fault f

/-- The controller reads a port. -/
def doRead (p : OutPort) (s : State) : Host.Outcome State Fault Refusal := portAccess (s.readFault p) s

/-- The controller uses a port's value as a result. -/
def doUseResult (p : OutPort) (s : State) : Host.Outcome State Fault Refusal := portAccess (s.useFault p) s

end Sys2Proof.Machine
end

