-- ==== Sys2Proof/Machine/BcdCodec.lean ====
section
/-! DEFINITION. The BCD codec: its two functions and the operations ENC and DEC (spec 40). -/

namespace Sys2Proof.Machine

/-- R63's loop `for i from m-1 down to 0`: two digits of the working value `w` into each byte. -/
def bcdEncodeBytes : (m : Nat) → (w : Nat) → Buf → Buf
  | 0, _, buf => buf
  | i + 1, w, buf => bcdEncodeBytes i (w / 10 / 10) (setByte buf i (packByte (digit (w / 10)) (digit w)))

/-- `bcd_encode(buf, v, N)` without its truncation bit (R63). For odd `N` the least significant digit goes first, to the
high nibble of byte `N div 2`, whose low nibble is kept (90 C1). -/
def bcdEncode (buf : Buf) (v : Word) (N : Nat) : Buf :=
  if N % 2 = 1 then
    bcdEncodeBytes (N / 2) (v.toNat / 10)
      (setByte buf (N / 2) (packByte (digit v.toNat) (loNibble (byteAt buf (N / 2)))))
  else bcdEncodeBytes (N / 2) v.toNat buf

/-- `acc*10 + nibble`, in 32 bits (R64). -/
def bcdFold (acc : Word) (nibble : BitVec 4) : Word := acc * 10 + nibble.setWidth 32

/-- R64's loop `for i from 0 to m-1` over whole bytes. -/
def bcdDecodeBytes (B : Buf) : (m : Nat) → Word
  | 0 => 0
  | i + 1 => bcdFold (bcdFold (bcdDecodeBytes B i) (hiNibble (byteAt B i))) (loNibble (byteAt B i))

/-- `bcd_decode(B, N)` (R64). For odd `N` the last byte gives its high nibble only. -/
def bcdDecode (B : Buf) (N : Nat) : Word :=
  if N % 2 = 1 then bcdFold (bcdDecodeBytes B (N / 2)) (hiNibble (byteAt B (N / 2)))
  else bcdDecodeBytes B (N / 2)

/-- `ENC n, #v` (R66). -/
def execEnc (n : BitVec 4) (v : Word) (s : State) : Host.Outcome State Fault Refusal :=
  .next (if Config.nMax < n.toNat then raise .illegal s
    else complete ((s.setBuf (bcdEncode s.buf v n.toNat)).setStat (setTrunc (truncates v n.toNat) s.stat)))

/-- `DEC n` (R67). -/
def execDec (n : BitVec 4) (s : State) : Host.Outcome State Fault Refusal :=
  .next (if Config.nMax < n.toNat then raise .illegal s
    else complete (s.setRes (bcdDecode s.buf n.toNat)))

end Sys2Proof.Machine
end

