-- ==== Sys2Proof/Machine/FrameBuilder.lean ====
section
/-! DEFINITION. The frame builder: NOP, CLR, LDB, FRM (spec 41). -/

namespace Sys2Proof.Machine

/-- `NOP` (R71). -/
def execNop (s : State) : Host.Outcome State Fault Refusal := .next (complete s)

/-- `CLR` (R72). -/
def execClr (s : State) : Host.Outcome State Fault Refusal := .next (complete (s.setBuf #v[0, 0, 0, 0]))

/-- `LDB #w` (R73). -/
def execLdb (w : Word) (s : State) : Host.Outcome State Fault Refusal := .next (complete (s.setBuf (dinBytes w)))

/-- Frame byte `i < 4` of a frame with `l` payload bytes: `(i < L) ? BUF[i] : 0x00` (R74). -/
def payloadByte (buf : Buf) (l i : Nat) : Byte := if i < l then byteAt buf i else 0x00

/-- The frame of R74: the payload in bytes 0 to 3, the CAT opcode in byte 4 (R55). -/
def buildFrame (buf : Buf) (l : Nat) (opc : Byte) : Frame :=
  #v[payloadByte buf l 0, payloadByte buf l 1, payloadByte buf l 2, payloadByte buf l 3, opc]

/-- `FRM l, opc` (R74). -/
def execFrm (l : BitVec 4) (opc : Byte) (s : State) : Host.Outcome State Fault Refusal :=
  .next (if Config.payloadBytes < l.toNat then raise .illegal s
    else complete (s.setFrame (buildFrame s.buf l.toNat opc)))

end Sys2Proof.Machine
end

