-- ==== Sys2Proof/Machine/Reserved.lean ====
section
/-! DEFINITION. The reserved operation codes 0xE and 0xF (spec 30 R53; 60 R92). -/

namespace Sys2Proof.Machine

/-- Code 0xE raises Illegal (R53, R92). -/
def execReservedE (s : State) : Host.Outcome State Fault Refusal := .next (raise .illegal s)

/-- Code 0xF raises Illegal (R53, R92). -/
def execReservedF (s : State) : Host.Outcome State Fault Refusal := .next (raise .illegal s)

end Sys2Proof.Machine
end

