-- ==== Sys2Proof/Machine/ResponseDecoder.lean ====
section
/-! DEFINITION. The response decoder: RACK, RRAW, RSMT, RTXS, RFRQ, RMEM, RCWM, RAGC (spec 42). -/

namespace Sys2Proof.Machine

/-- `RACK` (R78): the byte is discarded. -/
def execRack (s : State) : Host.Outcome State Fault Refusal :=
  respond 1 (fun _ s => s) s

/-- `RRAW` (R79). -/
def execRraw (s : State) : Host.Outcome State Fault Refusal :=
  respond 1 (fun b s => s.setRes (zext32 (respByte b 0))) s

/-- `RSMT` (R80). -/
def execRsmt (s : State) : Host.Outcome State Fault Refusal :=
  respond 1 (fun b s => s.setRes (zext32 (smeterBits (respByte b 0)))) s

/-- `RTXS` (R81). -/
def execRtxs (s : State) : Host.Outcome State Fault Refusal :=
  respond 1 (fun b s => s.setTxf (transmitting (respByte b 0) Config.txSentinel)) s

/-- The four BCD bytes of a frequency response (R57, R82). -/
def freqBytes (b : List Byte) : Buf := #v[respByte b 0, respByte b 1, respByte b 2, respByte b 3]

/-- `RFRQ` (R82). -/
def execRfrq (s : State) : Host.Outcome State Fault Refusal :=
  respond 5 (fun b s => (s.setRes (bcdDecode (freqBytes b) Config.nFreq)).setStb (respByte b 4)) s

/-- `RMEM` (R83): the second byte is discarded. -/
def execRmem (s : State) : Host.Outcome State Fault Refusal :=
  respond 2 (fun b s => s.setRes (zext32 (respByte b 0))) s

/-- `RCWM` (R84): the second byte is discarded. -/
def execRcwm (s : State) : Host.Outcome State Fault Refusal :=
  respond 2 (fun b s => (s.setRes (zext32 (respByte b 0))).setCwf (cwfOf (respByte b 0))) s

/-- `RAGC` (R85): the second byte is discarded. -/
def execRagc (s : State) : Host.Outcome State Fault Refusal :=
  respond 2 (fun b s => (s.setRes (zext32 (respByte b 0))).setAdf (adfOf (respByte b 0))) s

end Sys2Proof.Machine
end

