-- ==== Sys2Proof/Machine/Dispatch.lean ====
section
/-! DEFINITION. The meaning of each operation, one arm per constructor (spec 30 R51). -/

namespace Sys2Proof.Machine

def exec (i : Instr) (s : State) : Host.Outcome State Fault Refusal :=
  match i with
  | .nop => Sys2Proof.Machine.execNop s
  | .clr => Sys2Proof.Machine.execClr s
  | .ldb w => Sys2Proof.Machine.execLdb w s
  | .enc n v => Sys2Proof.Machine.execEnc n v s
  | .dec n => Sys2Proof.Machine.execDec n s
  | .frm l opc => Sys2Proof.Machine.execFrm l opc s
  | .rack => Sys2Proof.Machine.execRack s
  | .rraw => Sys2Proof.Machine.execRraw s
  | .rsmt => Sys2Proof.Machine.execRsmt s
  | .rtxs => Sys2Proof.Machine.execRtxs s
  | .rfrq => Sys2Proof.Machine.execRfrq s
  | .rmem => Sys2Proof.Machine.execRmem s
  | .rcwm => Sys2Proof.Machine.execRcwm s
  | .ragc => Sys2Proof.Machine.execRagc s
  | .reservedE => Sys2Proof.Machine.execReservedE s
  | .reservedF => Sys2Proof.Machine.execReservedF s

end Sys2Proof.Machine
end

