-- ==== Sys2Proof/Machine/Step.lean ====
section
/-! DEFINITION. One step of the machine: it takes the next input event, if there is one (spec 00 R6, R19; 10 R30, R33; 70 R103,
R104). -/

namespace Sys2Proof.Machine

/-- The controller presents the instruction whose bits are `w` next: the very next step takes it from the command port.
Log entries 3, 4. -/
def State.withFetchWord (s : State) (nbits w : Nat) : State :=
  s.setInputs (.op (wordPair nbits w).1 (wordPair nbits w).2 :: s.inputs)

/-- One step. With no event pending the block waits for the controller and nothing changes (R103); log entry 3. -/
def step (s : State) : Host.Outcome State Fault Refusal :=
  match s.inputs with
  | [] => .next s
  | .op cmd din :: rest => afterOp (decode cmd din) (exec (decode cmd din) (s.setInputs rest))
  | .rst :: rest => .next (s.setInputs rest).resetRegs
  | .rstDuring cmd din taken :: rest => .next ((s.setInputs rest).resetDuring (decode cmd din) taken)
  | .send :: rest => doSend (s.setInputs rest)
  | .flush :: rest => .next (doFlush (s.setInputs rest))
  | .read p :: rest => doRead p (s.setInputs rest)
  | .useResult p :: rest => doUseResult p (s.setInputs rest)
  | .arrive b :: rest => .next (doArrive b (s.setInputs rest))

end Sys2Proof.Machine
end

