-- ==== Sys2Proof/Machine/Controller.lean ====
section
/-! DEFINITION. What a controller issues: the pseudo-operations and the action sequences of spec 30 R61, the pairing of CAT
commands with response operations of spec 42 R86, what the controller reports of an outcome (spec 60 R99), and what it makes
of a flag byte (spec 42 R87) and of a repeater offset (92 D39). The block does not see any of this: it sees the events. -/

namespace Sys2Proof.Machine

/-- `FRZ opc` = `FRM 0, opc` (R61). -/
def frz (opc : Byte) : Instr := .frm 0 opc

/-- `LDA msb, lsb` = `LDB #((msb << 24) | (lsb << 16))` (R61). -/
def lda (msb lsb : Byte) : Instr := .ldb ((zext32 msb <<< 24) ||| (zext32 lsb <<< 16))

/-- `LDC code` = `LDB #(code << 24)` (R61). -/
def ldc (code : Byte) : Instr := .ldb (zext32 code <<< 24)

/-- The controller issues an operation: its words, as the assembler writes them (R60). -/
def issue (i : Instr) : Event := .op (encode i).1 (encode i).2

/-- An operation, and the read of STAT that the controller makes after each (R99). -/
def issueChecked (i : Instr) : List Event := [issue i, .read .stat]

/-- The length in bytes of the radio's response to a CAT command (R86, column k). -/
def responseBytes : CatCommand → Nat
  | .lockOn => 0
  | .lockOff => 0
  | .pttOn => 0
  | .pttOff => 0
  | .clarOn => 0
  | .clarOff => 0
  | .splitOn => 0
  | .splitOff => 0
  | .vfoSwap => 0
  | .freqSet => 1
  | .rptOffsetSet => 1
  | .sqlToneSet => 1
  | .modeSet => 1
  | .rptDirSet => 1
  | .sqlModeSet => 1
  | .readFreqMode => 5
  | .readTxStatus => 1
  | .readRxStatus => 1
  | .eepromRead => 2

/-- The response operations that R86 pairs with a CAT command. -/
def pairedOps : CatCommand → List Instr
  | .lockOn => []
  | .lockOff => []
  | .pttOn => []
  | .pttOff => []
  | .clarOn => []
  | .clarOff => []
  | .splitOn => []
  | .splitOff => []
  | .vfoSwap => []
  | .freqSet => [.rack]
  | .rptOffsetSet => [.rack]
  | .sqlToneSet => [.rack]
  | .modeSet => [.rack]
  | .rptDirSet => [.rack]
  | .sqlModeSet => [.rack]
  | .readFreqMode => [.rfrq]
  | .readTxStatus => [.rtxs]
  | .readRxStatus => [.rsmt, .rraw]
  | .eepromRead => [.rmem, .rcwm, .ragc]

/-- `o*100` of the repeater-offset setter, in 32 bits where it fits (R8 `OFFSET_SCALE_WRAP`, 92 D39).
DESIGN CHOICE, log entry 15, unsafe: `o` has 32 bits, and where the product does not fit the result is a function of `o`
alone that always gives a DIN; the spec states neither. -/
def scaleOffset (o : Word) : Word :=
  if o.toNat * 100 < 2 ^ 32 then o * 100 else Config.offsetScaleWrap o

/-- The flag that a field of a memory value byte in RES stands for (R87). -/
def flagOf (f : FlagField) (res : Word) : Bool := res.getLsbD f.bit.val == f.activeHigh

/-- The toggle actions of R61's first row. -/
inductive Toggle where
  | lockOn | lockOff | pttOn | pttOff | clarOn | clarOff | splitOn | splitOff | vfoSwap
  deriving DecidableEq, Repr

/-- The CAT command of a toggle (R61). -/
def Toggle.command : Toggle → CatCommand
  | .lockOn => .lockOn
  | .lockOff => .lockOff
  | .pttOn => .pttOn
  | .pttOff => .pttOff
  | .clarOn => .clarOn
  | .clarOff => .clarOff
  | .splitOn => .splitOn
  | .splitOff => .splitOff
  | .vfoSwap => .vfoSwap

/-- The actions of R61's catalogue. -/
inductive Action where
  | toggle (c : Toggle)
  | setFrequency (f : Word)
  | setMode (m : Byte)
  | setRptDirection (d : Byte)
  | setRptOffset (o : Word)
  | setSquelchMode (m : Byte)
  | setSquelchTone (t : Word)
  | getFrequency
  | getMode
  | getTransmitState
  | getSmeter
  | getVfo
  | getCwMeter
  | getAgcDsp
  | getSplit
  deriving DecidableEq, Repr

/-- The CAT command that an action sends (R61). -/
def Action.command : Action → CatCommand
  | .toggle c => c.command
  | .setFrequency _ => .freqSet
  | .setMode _ => .modeSet
  | .setRptDirection _ => .rptDirSet
  | .setRptOffset _ => .rptOffsetSet
  | .setSquelchMode _ => .sqlModeSet
  | .setSquelchTone _ => .sqlToneSet
  | .getFrequency => .readFreqMode
  | .getMode => .readFreqMode
  | .getTransmitState => .readTxStatus
  | .getSmeter => .readRxStatus
  | .getVfo => .eepromRead
  | .getCwMeter => .eepromRead
  | .getAgcDsp => .eepromRead
  | .getSplit => .eepromRead

/-- The operations that fill BUF and build the frame of an action (R61). -/
def Action.buildOps (a : Action) : List Instr :=
  let opc := Config.opc a.command
  let read (c : MemCell) : List Instr := [lda (Config.addr c).1 (Config.addr c).2, .frm 2 opc]
  match a with
  | .toggle _ => [frz opc]
  | .setFrequency f => [.enc (BitVec.ofNat 4 Config.nFreq) f, .frm 4 opc]
  | .setMode m => [ldc m, .frm 1 opc]
  | .setRptDirection d => [ldc d, .frm 1 opc]
  | .setRptOffset o => [.enc (BitVec.ofNat 4 Config.nFreq) (scaleOffset o), .frm 4 opc]
  | .setSquelchMode m => [ldc m, .frm 1 opc]
  | .setSquelchTone t => [.enc (BitVec.ofNat 4 Config.nTone) t, .frm 2 opc]
  | .getFrequency => [frz opc]
  | .getMode => [frz opc]
  | .getTransmitState => [frz opc]
  | .getSmeter => [frz opc]
  | .getVfo => read .vfo
  | .getCwMeter => read .cwMeter
  | .getAgcDsp => read .agcDsp
  | .getSplit => read .split

/-- The response operation of an action, none for a toggle (R61). -/
def Action.responseOp : Action → List Instr
  | .toggle _ => []
  | .setFrequency _ => [.rack]
  | .setMode _ => [.rack]
  | .setRptDirection _ => [.rack]
  | .setRptOffset _ => [.rack]
  | .setSquelchMode _ => [.rack]
  | .setSquelchTone _ => [.rack]
  | .getFrequency => [.rfrq]
  | .getMode => [.rfrq]
  | .getTransmitState => [.rtxs]
  | .getSmeter => [.rsmt]
  | .getVfo => [.rmem]
  | .getCwMeter => [.rcwm]
  | .getAgcDsp => [.ragc]
  | .getSplit => [.rmem]

/-- The port that shows an action's result, if it has one (R61, column result). -/
def Action.resultPort : Action → Option OutPort
  | .toggle _ => none
  | .setFrequency _ => none
  | .setMode _ => none
  | .setRptDirection _ => none
  | .setRptOffset _ => none
  | .setSquelchMode _ => none
  | .setSquelchTone _ => none
  | .getFrequency => some .res
  | .getMode => some .stb
  | .getTransmitState => some .txf
  | .getSmeter => some .res
  | .getVfo => some .res
  | .getCwMeter => some .cwf
  | .getAgcDsp => some .adf
  | .getSplit => some .res

/-- The field of RES that is an action's result, for the two memory flags (R61, R87). -/
def Action.resultField : Action → Option FlagField
  | .getVfo => some Config.vfoField
  | .getSplit => some Config.splitField
  | .toggle _ => none
  | .setFrequency _ => none
  | .setMode _ => none
  | .setRptDirection _ => none
  | .setRptOffset _ => none
  | .setSquelchMode _ => none
  | .setSquelchTone _ => none
  | .getFrequency => none
  | .getMode => none
  | .getTransmitState => none
  | .getSmeter => none
  | .getCwMeter => none
  | .getAgcDsp => none

/-- What an action comes to for its caller (R61, column result; R99). -/
inductive ActionResult where
  /-- It succeeded and has no result: a toggle, or a setter, whose status byte is discarded. -/
  | done
  /-- It succeeded, and its result is a whole register. -/
  | port (v : PortValue)
  /-- It succeeded, and its result is a flag in RES (R87). -/
  | flag (b : Bool)
  /-- It failed: "a typed failure result" (R99). No register's value comes with it (R113). -/
  | failed (x : Exc)
  deriving DecidableEq, Repr

/-- The result that the controller makes of the ports after an action that succeeded (R61, column result; R87). -/
def Action.value (a : Action) (s : State) : ActionResult :=
  match a.resultField, a.resultPort with
  | some f, _ => .flag (flagOf f s.res)
  | none, some p => .port (s.portValue p)
  | none, none => .done

/-- What the controller reports of an action, from the outcome it reads in STAT (R99): the value if it is OK, else the
failure. None only for the reserved ERR = 3, where the read of STAT is a fault and no report is made (93 I14). -/
def Action.result (a : Action) (s : State) : Option ActionResult :=
  s.outcome.map fun
    | .ok => a.value s
    | .timeout => .failed .timeout
    | .illegal => .failed .illegal

/-- How the controller takes an action's result once it has read the outcome: the result port, used as that operation's
result, where the outcome is OK; nothing after a failure (R99, R113). -/
def Action.resultEvents (a : Action) (outcome : Option Err) : List Event :=
  match outcome, a.resultPort with
  | some .ok, some p => [.useResult p]
  | some .ok, none => []
  | some .timeout, _ => []
  | some .illegal, _ => []
  | none, _ => []

/-- A whole transaction in the order of R108: build the frame, SEND, then exactly the response operation; STAT is read
after each operation (R99). -/
def Action.events (a : Action) : List Event :=
  a.buildOps.flatMap issueChecked ++ [.send] ++ a.responseOp.flatMap issueChecked

end Sys2Proof.Machine
end

