-- ==== Sys2Proof/Safety.lean ====
section
/-! DEFINITION. The terms of the claims: what the receive port delivers, a sound status, no failure, a run (spec 00 R12; 10 R29,
R31; 60 R89, R91, R93). -/

namespace Sys2Proof.Machine

/-- STAT as R29 and R93 say it can be: bits [7:4] are 0, ERR is not 3, and STICKY is 1 when ERR is not OK. -/
def StatSound (stat : Byte) : Prop :=
  stat.extractLsb' 4 4 = 0 ∧ statErr stat ≠ 3 ∧ (statErr stat ≠ 0 → statSticky stat = true)

/-- "A controller, or a model's claim, that needs 'no failure since reset' tests STICKY = 0" (R93). -/
def NoFailure (s : State) : Prop := statSticky s.stat = false

/-- From `e`, calls of `rx()` return the bytes `bs`, one after another, and leave `e'` (R12, R31). -/
def Delivers : List Byte → Env → Env → Prop
  | [], e, e' => e' = e
  | b :: bs, e, e' => ∃ e1, rx e = (.byte b, e1) ∧ Delivers bs e1 e'

/-- From `e`, calls of `rx()` return the bytes `taken` and then Timeout, and leave `e'` (R12, R91). -/
def TimesOutAfter (taken : List Byte) (e e' : Env) : Prop :=
  ∃ e1, Delivers taken e e1 ∧ rx e1 = (.timeout, e')

/-- `t` is reached from `s` in `n` steps, none of which stops. -/
def Reaches : Nat → State → State → Prop
  | 0, s, t => t = s
  | n + 1, s, t => ∃ u, step s = .next u ∧ Reaches n u t

end Sys2Proof.Machine
end

