-- ==== Sys2Proof/WellFormed.lean ====
section
/-! DEFINITION. Which operations use no reserved value: neither a reserved code (spec 30 R53) nor a reserved value of
CMD.n (spec 30 R54). The others decode and run too: they raise Illegal (spec 60 R92). -/

namespace Sys2Proof

/-- The operation holds no reserved value (R53, R54). -/
def Instr.wellFormed : Instr → Bool
  | .enc n _ => n.toNat ≤ Config.nMax
  | .dec n => n.toNat ≤ Config.nMax
  | .frm l _ => l.toNat ≤ Config.payloadBytes
  | .reservedE => false
  | .reservedF => false
  | .nop => true
  | .clr => true
  | .ldb _ => true
  | .rack => true
  | .rraw => true
  | .rsmt => true
  | .rtxs => true
  | .rfrq => true
  | .rmem => true
  | .rcwm => true
  | .ragc => true

end Sys2Proof
end

