-- ==== Sys2Proof/Certificates/Slice0/Obligations.lean ====
section
/-! DEFINITION. The statements for the provers, from the numbered rules of spec/. STAT results are written out in bits:
`stat &&& 0xFC` is ERR <- OK with every other bit kept, `||| 0x09` adds TIMEOUT and STICKY, `||| 0x0A` ILLEGAL and STICKY
(R29). `written` and `failed` are the model's own records of the result registers (log entry 7). -/

open Sys2Proof Sys2Proof.Machine

/-! ## Decoding and encoding -/

/-- R49, R51, R60: no operand of any operation is lost between its words and the decoder. -/
def Obligations.DecodeEncodeAgree : Prop :=
  ∀ i : Instr, decode (encode i).1 (encode i).2 = i

/-- R51's columns "uses n", "uses opc", "uses DIN": two commands are the same operation exactly when they agree on the
code and on the fields that code uses. -/
def Obligations.DecodeReadsExactlyUsedFields : Prop :=
  ∀ (c c' : CmdWord) (d d' : Word), decode c d = decode c' d' ↔
    (cmdOp c = cmdOp c' ∧
      (cmdOp c = 0x3 ∨ cmdOp c = 0x4 ∨ cmdOp c = 0x5 → cmdN c = cmdN c') ∧
      (cmdOp c = 0x5 → cmdOpc c = cmdOpc c') ∧
      (cmdOp c = 0x2 ∨ cmdOp c = 0x3 → d = d'))

/-- R49, R51: words of spec/95_test_vectors.md and what they stand for. -/
def Obligations.DecodedWordsFromVectors : Prop :=
  decode 0xFFF0 0 = .nop ∧ decode 0x0002 0xDEADBEEF = .ldb 0xDEADBEEF ∧ decode 0xAB83 43 = .enc 8 43 ∧
  decode 0x0034 0 = .dec 3 ∧ decode 0xBB25 0 = .frm 2 0xBB ∧ decode 0x5A66 0 = .rack ∧ decode 0x000A 0 = .rfrq ∧
  decode 0x000F 0 = .reservedF

/-- R30, R51: a step with an operation on the command port is that operation's effect, with the command taken off the
port; around it the step only keeps the model's own record of which result registers' latest operation failed (log
entry 7). -/
def Obligations.StepRunsDecodedOperation : Prop :=
  ∀ (s : State) (cmd : CmdWord) (din : Word) (rest : List Event), s.inputs = .op cmd din :: rest →
    ∃ t, exec (decode cmd din) { s with inputs := rest } = .next t ∧
      step s = .next { t with
        failed := markRegs (resultRegs (decode cmd din)) (decide (statErr t.stat ≠ 0)) s.failed }

/-- R52: fields an operation does not use change nothing, and are never a reason for ILLEGAL. -/
def Obligations.IgnoredFieldsHaveNoEffect : Prop :=
  (∀ (s : State) (c c' : CmdWord) (d d' : Word), cmdOp c = cmdOp c' →
    (cmdOp c = 0x3 ∨ cmdOp c = 0x4 ∨ cmdOp c = 0x5 → cmdN c = cmdN c') →
    (cmdOp c = 0x5 → cmdOpc c = cmdOpc c') →
    (cmdOp c = 0x2 ∨ cmdOp c = 0x3 → d = d') →
    exec (decode c d) s = exec (decode c' d') s) ∧
  (∀ (s : State) (c : CmdWord) (d : Word), (cmdOp c).toNat ≤ 0xD →
    cmdOp c ≠ 0x3 → cmdOp c ≠ 0x4 → cmdOp c ≠ 0x5 →
    ∃ t, exec (decode c d) s = .next t ∧ statErr t.stat ≠ 2)

/-! ## Reserved words -/

/-- R92: a reserved code or a reserved CMD.n writes ERR and STICKY and nothing else, and takes nothing from the port. -/
def Obligations.ReservedWordsRaiseIllegal : Prop :=
  ∀ (s : State) (c : CmdWord) (d : Word),
    (cmdOp c = 0xE ∨ cmdOp c = 0xF ∨ ((cmdOp c = 0x3 ∨ cmdOp c = 0x4) ∧ 9 ≤ (cmdN c).toNat) ∨
      (cmdOp c = 0x5 ∧ 5 ≤ (cmdN c).toNat)) →
    exec (decode c d) s = .next { s with stat := (s.stat &&& 0xFC) ||| 0x0A }

/-- R53: the two reserved codes, and what issuing one does. -/
def Obligations.ReservedCodesRunAsIllegal : Prop :=
  (∀ (c : CmdWord) (d : Word), cmdOp c = 0xE → decode c d = .reservedE) ∧
  (∀ (c : CmdWord) (d : Word), cmdOp c = 0xF → decode c d = .reservedF) ∧
  (∀ s : State, exec .reservedE s = .next { s with stat := (s.stat &&& 0xFC) ||| 0x0A }) ∧
  (∀ s : State, exec .reservedF s = .next { s with stat := (s.stat &&& 0xFC) ||| 0x0A })

/-- R89's row ILLEGAL: an operation ends ILLEGAL exactly when it holds a reserved value. -/
def Obligations.IllegalExactlyWhenIllFormed : Prop :=
  ∀ (i : Instr) (s : State), ∃ t, exec i s = .next t ∧ (statErr t.stat = 2 ↔ i.wellFormed = false)

/-! ## The frame builder -/

/-- R71. -/
def Obligations.NopWritesOnlyErr : Prop :=
  (∀ (c : CmdWord) (d : Word), cmdOp c = 0x0 → decode c d = .nop) ∧
  (∀ s : State, exec .nop s = .next { s with stat := s.stat &&& 0xFC })

/-- R72. -/
def Obligations.ClrZeroesBuf : Prop :=
  (∀ (c : CmdWord) (d : Word), cmdOp c = 0x1 → decode c d = .clr) ∧
  (∀ s : State, exec .clr s = .next { s with buf := #v[0, 0, 0, 0], stat := s.stat &&& 0xFC })

/-- R73, with R40's byte order as numbers. -/
def Obligations.LdbLoadsDinBigEndian : Prop :=
  (∀ (c : CmdWord) (d : Word), cmdOp c = 0x2 → decode c d = .ldb d) ∧
  (∀ (w : Word) (s : State), ∃ b : Buf, (∀ i < 4, (byteAt b i).toNat = w.toNat / 2 ^ (24 - 8 * i) % 2 ^ 8) ∧
    exec (.ldb w) s = .next { s with buf := b, stat := s.stat &&& 0xFC })

/-- R74. -/
def Obligations.FrmBuildsFrame : Prop :=
  (∀ (c : CmdWord) (d : Word), cmdOp c = 0x5 → decode c d = .frm (cmdN c) (cmdOpc c)) ∧
  (∀ (l : BitVec 4) (opc : Byte) (s : State), l.toNat ≤ 4 →
    ∃ f : Frame, (∀ i < 4, byteAt f i = if i < l.toNat then byteAt s.buf i else 0) ∧ byteAt f 4 = opc ∧
      exec (.frm l opc) s = .next { s with frame := f, fv := true, stat := s.stat &&& 0xFC }) ∧
  (∀ (l : BitVec 4) (opc : Byte) (s : State), 4 < l.toNat →
    exec (.frm l opc) s = .next { s with stat := (s.stat &&& 0xFC) ||| 0x0A })

/-- R75: the frame's invariants after FRM, and FRAME changes on no other operation. -/
def Obligations.FrameShapeAndStability : Prop :=
  (∀ (l : BitVec 4) (opc : Byte) (s t : State), exec (.frm l opc) s = .next t → statErr t.stat ≠ 2 →
    t.frame.toList.length = 5 ∧ byteAt t.frame 4 = opc ∧ (l = 0 → ∀ i < 4, byteAt t.frame i = 0)) ∧
  (∀ (i : Instr) (s t : State), exec i s = .next t → (∀ l opc, i ≠ .frm l opc) → t.frame = s.frame)

/-! ## The BCD codec -/

/-- R66, with the digit places of R56: the `N` most significant lanes hold the `N` least significant decimal digits of
the value, every other lane (the kept odd nibble among them) is unchanged. -/
def Obligations.EncWritesDecimalDigits : Prop :=
  (∀ (c : CmdWord) (d : Word), cmdOp c = 0x3 → decode c d = .enc (cmdN c) d) ∧
  (∀ (n : BitVec 4) (v : Word) (s : State), n.toNat ≤ 8 →
    ∃ b : Buf, (∀ k < n.toNat, (lane b k).toNat = v.toNat / 10 ^ (n.toNat - 1 - k) % 10) ∧
      (∀ k, n.toNat ≤ k → k < 8 → lane b k = lane s.buf k) ∧
      exec (.enc n v) s = .next { s with
        buf := b
        stat := (s.stat &&& 0xF8) ||| (if 10 ^ n.toNat ≤ v.toNat then 0x04 else 0x00) }) ∧
  (∀ (n : BitVec 4) (v : Word) (s : State), 8 < n.toNat →
    exec (.enc n v) s = .next { s with stat := (s.stat &&& 0xFC) ||| 0x0A })

/-- R67, with the weights of R70 and nibbles folded in by value (R69). -/
def Obligations.DecSumsWeightedLanes : Prop :=
  (∀ (c : CmdWord) (d : Word), cmdOp c = 0x4 → decode c d = .dec (cmdN c)) ∧
  (∀ (n : BitVec 4) (s : State), n.toNat ≤ 8 →
    ∃ r : Word, r.toNat = ∑ k ∈ Finset.range n.toNat, (lane s.buf k).toNat * 10 ^ (n.toNat - 1 - k) ∧
      exec (.dec n) s = .next { s with
        res := r, written := { s.written with res := true }, stat := s.stat &&& 0xFC }) ∧
  (∀ (n : BitVec 4) (s : State), 8 < n.toNat →
    exec (.dec n) s = .next { s with stat := (s.stat &&& 0xFC) ||| 0x0A })

/-- R65: the round trip from any buffer, without the proviso on the kept nibble; and its value past the digits. -/
def Obligations.BcdRoundTrip : Prop :=
  ∀ (N : Nat) (buf : Buf) (v : Word), N ≤ 8 →
    (v.toNat < 10 ^ N → bcdDecode (bcdEncode buf v N) N = v) ∧
    (10 ^ N ≤ v.toNat → (bcdDecode (bcdEncode buf v N) N).toNat = v.toNat % 10 ^ N)

/-- R68: a value with too many digits encodes as its remainder, and the truncation bit says so. -/
def Obligations.EncodeTruncatesModulo : Prop :=
  ∀ (N : Nat) (buf : Buf) (v : Word), N ≤ 8 → 10 ^ N ≤ v.toNat →
    bcdEncode buf v N = bcdEncode buf (BitVec.ofNat 32 (v.toNat % 10 ^ N)) N ∧ truncates v N = true

/-- R64's last paragraph: the accumulator never passes 166,666,665, so it cannot wrap, and all nibbles 0xF reach it. -/
def Obligations.DecodeNeverOverflows : Prop :=
  (∀ (N : Nat) (B : Buf), N ≤ 8 → (bcdDecode B N).toNat ≤ 166666665) ∧
  bcdDecode #v[0xFF, 0xFF, 0xFF, 0xFF] 8 = 166666665

/-- R64: nothing outside the field's lanes is read (no later byte, and not the low nibble of an odd field's last byte). -/
def Obligations.DecodeReadsOnlyItsField : Prop :=
  ∀ (N : Nat) (A B : Buf), N ≤ 8 → (∀ k < N, lane A k = lane B k) → bcdDecode A N = bcdDecode B N

/-- R106, R107: ENC then FRM. The kept nibble of an odd field, and stale bytes past the field, reach the frame. -/
def Obligations.EncThenFrmSendsWhatBufHeld : Prop :=
  ∀ (n l : BitVec 4) (v : Word) (opc : Byte) (s t u : State), n.toNat ≤ 8 → l.toNat ≤ 4 →
    exec (.enc n v) s = .next t → exec (.frm l opc) t = .next u →
    (∀ i, (n.toNat + 1) / 2 ≤ i → i < l.toNat → byteAt u.frame i = byteAt s.buf i) ∧
    (n.toNat % 2 = 1 → n.toNat / 2 < l.toNat →
      loNibble (byteAt u.frame (n.toNat / 2)) = loNibble (byteAt s.buf (n.toNat / 2)))

/-! ## The response decoder -/

/-- R78. -/
def Obligations.RackDiscardsOneByte : Prop :=
  (∀ (c : CmdWord) (d : Word), cmdOp c = 0x6 → decode c d = .rack) ∧
  (∀ (s : State) (b0 : Byte) (e : Env), Delivers [b0] s.env e →
    exec .rack s = .next { s with env := e, stat := s.stat &&& 0xFC }) ∧
  (∀ (s : State) (e : Env), TimesOutAfter [] s.env e →
    exec .rack s = .next { s with env := e, stat := (s.stat &&& 0xFC) ||| 0x09 })

/-- R79. -/
def Obligations.RrawReturnsTheByte : Prop :=
  (∀ (c : CmdWord) (d : Word), cmdOp c = 0x7 → decode c d = .rraw) ∧
  (∀ (s : State) (b0 : Byte) (e : Env), Delivers [b0] s.env e →
    exec .rraw s = .next { s with
      env := e, res := BitVec.ofNat 32 b0.toNat, written := { s.written with res := true }
      stat := s.stat &&& 0xFC }) ∧
  (∀ (s : State) (e : Env), TimesOutAfter [] s.env e →
    exec .rraw s = .next { s with env := e, stat := (s.stat &&& 0xFC) ||| 0x09 })

/-- R80. -/
def Obligations.RsmtReturnsLowNibble : Prop :=
  (∀ (c : CmdWord) (d : Word), cmdOp c = 0x8 → decode c d = .rsmt) ∧
  (∀ (s : State) (b0 : Byte) (e : Env), Delivers [b0] s.env e →
    exec .rsmt s = .next { s with
      env := e, res := BitVec.ofNat 32 (b0.toNat % 16), written := { s.written with res := true }
      stat := s.stat &&& 0xFC }) ∧
  (∀ (s : State) (e : Env), TimesOutAfter [] s.env e →
    exec .rsmt s = .next { s with env := e, stat := (s.stat &&& 0xFC) ||| 0x09 })

/-- R81, for every value of TX_SENTINEL. -/
def Obligations.RtxsComparesWithSentinel : Prop :=
  (∀ (c : CmdWord) (d : Word), cmdOp c = 0x9 → decode c d = .rtxs) ∧
  (∀ (s : State) (b0 : Byte) (e : Env), Delivers [b0] s.env e →
    exec .rtxs s = .next { s with
      env := e, txf := decide (b0 ≠ Config.txSentinel), written := { s.written with txf := true }
      stat := s.stat &&& 0xFC }) ∧
  (∀ (s : State) (e : Env), TimesOutAfter [] s.env e →
    exec .rtxs s = .next { s with env := e, stat := (s.stat &&& 0xFC) ||| 0x09 })

/-- R82, with the digits of the four bytes weighted as in R70. -/
def Obligations.RfrqReadsFrequencyAndStatus : Prop :=
  (∀ (c : CmdWord) (d : Word), cmdOp c = 0xA → decode c d = .rfrq) ∧
  (∀ (s : State) (b0 b1 b2 b3 b4 : Byte) (e : Env), Delivers [b0, b1, b2, b3, b4] s.env e →
    ∃ r : Word, r.toNat = ∑ k ∈ Finset.range 8, (lane #v[b0, b1, b2, b3] k).toNat * 10 ^ (7 - k) ∧
      exec .rfrq s = .next { s with
        env := e, res := r, stb := b4, written := { s.written with res := true, stb := true }
        stat := s.stat &&& 0xFC }) ∧
  (∀ (s : State) (taken : List Byte) (e : Env), taken.length < 5 → TimesOutAfter taken s.env e →
    exec .rfrq s = .next { s with env := e, stat := (s.stat &&& 0xFC) ||| 0x09 })

/-- R83. -/
def Obligations.RmemReturnsFirstByte : Prop :=
  (∀ (c : CmdWord) (d : Word), cmdOp c = 0xB → decode c d = .rmem) ∧
  (∀ (s : State) (b0 b1 : Byte) (e : Env), Delivers [b0, b1] s.env e →
    exec .rmem s = .next { s with
      env := e, res := BitVec.ofNat 32 b0.toNat, written := { s.written with res := true }
      stat := s.stat &&& 0xFC }) ∧
  (∀ (s : State) (taken : List Byte) (e : Env), taken.length < 2 → TimesOutAfter taken s.env e →
    exec .rmem s = .next { s with env := e, stat := (s.stat &&& 0xFC) ||| 0x09 })

/-- R84, with the bit places of R58. -/
def Obligations.RcwmExtractsCwFields : Prop :=
  (∀ (c : CmdWord) (d : Word), cmdOp c = 0xC → decode c d = .rcwm) ∧
  (∀ (s : State) (b0 b1 : Byte) (e : Env), Delivers [b0, b1] s.env e →
    exec .rcwm s = .next { s with
      env := e, res := BitVec.ofNat 32 b0.toNat
      cwf := ⟨BitVec.ofNat 2 (b0.toNat % 4), b0.toNat.testBit 4, b0.toNat.testBit 5⟩
      written := { s.written with res := true, cwf := true }
      stat := s.stat &&& 0xFC }) ∧
  (∀ (s : State) (taken : List Byte) (e : Env), taken.length < 2 → TimesOutAfter taken s.env e →
    exec .rcwm s = .next { s with env := e, stat := (s.stat &&& 0xFC) ||| 0x09 })

/-- R85, with the bit places of R58. -/
def Obligations.RagcExtractsAgcFields : Prop :=
  (∀ (c : CmdWord) (d : Word), cmdOp c = 0xD → decode c d = .ragc) ∧
  (∀ (s : State) (b0 b1 : Byte) (e : Env), Delivers [b0, b1] s.env e →
    exec .ragc s = .next { s with
      env := e, res := BitVec.ofNat 32 b0.toNat
      adf := ⟨b0.toNat.testBit 5, b0.toNat.testBit 2, b0.toNat.testBit 1, b0.toNat.testBit 0⟩
      written := { s.written with res := true, adf := true }
      stat := s.stat &&& 0xFC }) ∧
  (∀ (s : State) (taken : List Byte) (e : Env), taken.length < 2 → TimesOutAfter taken s.env e →
    exec .ragc s = .next { s with env := e, stat := (s.stat &&& 0xFC) ||| 0x09 })

/-- R91: wherever an element times out, STAT alone of the registers changes, and the elements taken are lost. -/
def Obligations.TimeoutWritesOnlyStat : Prop :=
  ∀ (i : Instr) (s : State) (taken : List Byte) (e : Env), taken.length < rxCount i → TimesOutAfter taken s.env e →
    exec i s = .next { s with env := e, stat := (s.stat &&& 0xFC) ||| 0x09 }

/-- R51 (last column), R77: with enough bytes an operation takes exactly its count of elements, and no more. -/
def Obligations.OperationTakesExactlyItsElements : Prop :=
  ∀ (i : Instr) (s : State) (bs : List Byte) (e : Env), bs.length = rxCount i → Delivers bs s.env e →
    ∃ t, exec i s = .next t ∧ t.env = e ∧ statErr t.stat ≠ 1

/-- R34, R45: bytes in the transport's buffer are delivered in arrival order, each once; one that arrives later comes
after them. THE MODEL'S CHOICES: that rx() serves the buffer before anything else and never answers Timeout while it holds
a byte (log entry 2, where R31 itself admits Timeout at every call), and that a byte's arrival is a step (log entry 5). -/
def Obligations.BufferedBytesComeInOrder : Prop :=
  (∀ (e : Env) (bs rest : List Byte), e.rxBuf = bs ++ rest → Delivers bs e { e with rxBuf := rest }) ∧
  (∀ (s : State) (b : Byte) (rest : List Event), s.inputs = .arrive b :: rest →
    ∃ t, step s = .next t ∧ Delivers (s.env.rxBuf ++ [b]) t.env { s.env with rxBuf := [] } ∧
      t = { s with inputs := rest, env := t.env })

/-- R87: a response operation reads neither BUF nor FRAME. -/
def Obligations.ResponseIgnoresBufAndFrame : Prop :=
  ∀ (i : Instr) (s : State) (b : Buf) (f : Frame), rxCount i ≠ 0 →
    ∃ t, exec i s = .next t ∧ exec i { s with buf := b, frame := f } = .next { t with buf := b, frame := f }

/-! ## Status, exceptions, and which operation writes what -/

/-- R89, R90, R93: every operation ends with one of the outcomes OK, TIMEOUT, ILLEGAL; OK leaves STICKY, a failure
sets it. THE MODEL'S CHOICE: the last conjunct, that STAT[7:4] is kept (log entry 11; R11 keeps what is not written, R29
says these bits read as 0 and nothing writes them). -/
def Obligations.EveryOperationRecordsItsOutcome : Prop :=
  ∀ (i : Instr) (s : State), ∃ t, exec i s = .next t ∧
    ((statErr t.stat = 0 ∧ statSticky t.stat = statSticky s.stat) ∨
      ((statErr t.stat = 1 ∨ statErr t.stat = 2) ∧ statSticky t.stat = true)) ∧
    t.stat.extractLsb' 4 4 = s.stat.extractLsb' 4 4

/-- R94: ENC writes TRUNC, and no other operation does. -/
def Obligations.TruncWrittenOnlyByEnc : Prop :=
  (∀ (n : BitVec 4) (v : Word) (s : State), n.toNat ≤ 8 → ∃ t, exec (.enc n v) s = .next t ∧
    statTrunc t.stat = decide (10 ^ n.toNat ≤ v.toNat) ∧ statErr t.stat = 0) ∧
  (∀ (i : Instr) (s : State), (∀ n v, i ≠ .enc n v) → ∃ t, exec i s = .next t ∧ statTrunc t.stat = statTrunc s.stat)

/-- R97: after a failure every register but STAT holds what it held, and only a Timeout has moved the receive stream; the
line to the radio is as it was. -/
def Obligations.ExceptionsArePrecise : Prop :=
  ∀ (i : Instr) (s t : State), exec i s = .next t → statErr t.stat ≠ 0 →
    t = { s with stat := t.stat, env := t.env } ∧ t.env.txLine = s.env.txLine ∧
    (statErr t.stat = 2 → t.env = s.env)

/-- R20's column "written by", for every operation and every register; the line to the radio, the reset count and the
inputs to come are no operation's to change. -/
def Obligations.RegistersWrittenOnlyByTheirOperations : Prop :=
  ∀ (i : Instr) (s t : State), exec i s = .next t →
    (t.buf = s.buf ∨ i = .clr ∨ (∃ w, i = .ldb w) ∨ ∃ n v, i = .enc n v) ∧
    ((t.frame = s.frame ∧ t.fv = s.fv) ∨ ∃ l opc, i = .frm l opc) ∧
    (t.res = s.res ∨ (∃ n, i = .dec n) ∨ i = .rraw ∨ i = .rsmt ∨ i = .rfrq ∨ i = .rmem ∨ i = .rcwm ∨ i = .ragc) ∧
    (t.txf = s.txf ∨ i = .rtxs) ∧ (t.stb = s.stb ∨ i = .rfrq) ∧ (t.cwf = s.cwf ∨ i = .rcwm) ∧
    (t.adf = s.adf ∨ i = .ragc) ∧
    (t.env = s.env ∨ i = .rack ∨ i = .rraw ∨ i = .rsmt ∨ i = .rtxs ∨ i = .rfrq ∨ i = .rmem ∨ i = .rcwm ∨ i = .ragc) ∧
    t.env.txLine = s.env.txLine ∧ t.resets = s.resets ∧ t.inputs = s.inputs

/-- R29, R93, as an invariant of every step from every state that has it: STAT[7:4] is 0, ERR is never 3, and a failure
on record in ERR is on record in STICKY. -/
def Obligations.StatStaysSound : Prop :=
  ∀ s t : State, StatSound s.stat → step s = .next t → StatSound t.stat

/-- R35: the reset values the spec gives, STAT sound at reset, and (the model's own records, log entry 7) no result
register written and none failed. -/
def Obligations.ResetStatusAndFrameValid : Prop :=
  State.reset.stat = 0x00 ∧ State.reset.fv = false ∧ StatSound State.reset.stat ∧
  State.reset.written = ⟨false, false, false, false, false⟩ ∧ State.reset.failed = ⟨false, false, false, false, false⟩

/-- R93: along a run without a reset, STICKY = 0 at the end says that no state on the way had an ERR other than OK. -/
def Obligations.ClearStickyMeansNoFailure : Prop :=
  ∀ (m n : Nat) (s u t : State), StatSound s.stat → Reaches m s u → Reaches n u t → t.resets = s.resets →
    NoFailure t → statErr u.stat = 0

/-! ## Reset and the ports -/

/-- R103: RST sets STAT and FV, and touches neither the transport nor what the controller does next; R35, R105 step 5: no
result register counts as written after it, nor as failed (the model's own records, log entry 7). -/
def Obligations.RstSetsRegistersNotTransport : Prop :=
  ∀ (s : State) (rest : List Event), s.inputs = .rst :: rest →
    ∃ t, step s = .next t ∧ t.stat = 0x00 ∧ t.fv = false ∧ t.env = s.env ∧ t.inputs = rest ∧
      t.written = ⟨false, false, false, false, false⟩ ∧ t.failed = ⟨false, false, false, false, false⟩

/-- R104: RST while a response operation waits leaves exactly what RST alone would, but for the elements already taken,
which are lost. THE MODEL'S CHOICE: that the unspecified registers are equal in the two next states, which R35 and R103 leave
open; it holds because a reset's draws depend on the number of resets alone (log entry 1, the unsafe respect it names) and
because RST during an operation is one event that is one reset (log entry 6). -/
def Obligations.RstDuringOperationAbandonsIt : Prop :=
  ∀ (s t : State) (cmd : CmdWord) (din : Word) (taken : List Byte) (rest : List Event) (e : Env),
    s.inputs = .rstDuring cmd din taken.length :: rest → taken.length < rxCount (decode cmd din) →
    Delivers taken s.env e → step { s with inputs := .rst :: rest } = .next t →
    step s = .next { t with env := e }

/-- R23, R39, R105 step 4: SEND hands the five frame bytes over, byte 0 first; with FV = 0 it is the controller's
fault. THE MODEL'S CHOICE: that SEND is an event (log entry 5) and one step, with no RST inside it (log entry 14). -/
def Obligations.SendTransmitsTheFrame : Prop :=
  (∀ (s : State) (rest : List Event), s.inputs = .send :: rest → s.fv = true →
    step s = .next { s with
      inputs := rest
      env := { s.env with txLine := s.env.txLine ++
        [byteAt s.frame 0, byteAt s.frame 1, byteAt s.frame 2, byteAt s.frame 3, byteAt s.frame 4] } }) ∧
  (∀ (s : State) (rest : List Event), s.inputs = .send :: rest → s.fv = false →
    step s = .fault .sendWithoutFrame)

/-- R42: what a step adds to the line is nothing, or one whole valid frame of five bytes. THE MODEL'S CHOICE: that no RST
falls inside a write (log entry 14). -/
def Obligations.LineGrowsByWholeFrames : Prop :=
  ∀ s t : State, step s = .next t →
    t.env.txLine = s.env.txLine ∨
    (s.fv = true ∧ (∃ rest, s.inputs = .send :: rest) ∧
      ∃ five : List Byte, five.length = 5 ∧ five = s.frame.toList ∧ t.env.txLine = s.env.txLine ++ five)

/-- R112: between an FRM and the next FRM or reset, no step changes FRAME. -/
def Obligations.FrameStableAcrossSteps : Prop :=
  ∀ s t : State, step s = .next t →
    t.frame = s.frame ∨ (∃ cmd din rest, s.inputs = .op cmd din :: rest ∧ cmdOp cmd = 0x5) ∨ t.resets = s.resets + 1

/-- R34: FLUSH discards the bytes buffered and not read, and nothing else. THE MODEL'S CHOICE: that FLUSH
is an event, and that the script, whose elements have not arrived, stays (log entries 2, 5). -/
def Obligations.FlushDiscardsBufferedInput : Prop :=
  ∀ (s : State) (rest : List Event), s.inputs = .flush :: rest →
    step s = .next { s with inputs := rest, env := { s.env with rxBuf := [] } }

/-- R43, R105 step 5, 93 I1, 93 I14: a port read has no side effect; a read of RES, TXF, STB, CWF or ADF before any
operation has written it since reset is the controller's fault; so is a read of STAT that shows the reserved ERR = 3.
THE MODEL'S CHOICE (log entry 7): what counts as written, and that the last clause passes a read of an older result. -/
def Obligations.PortReadsAndTheirFaults : Prop :=
  ∀ (s : State) (p : OutPort) (rest : List Event), s.inputs = .read p :: rest →
    ((p = .res ∧ s.written.res = false) ∨ (p = .txf ∧ s.written.txf = false) ∨ (p = .stb ∧ s.written.stb = false) ∨
        (p = .cwf ∧ s.written.cwf = false) ∨ (p = .adf ∧ s.written.adf = false) →
      step s = .fault (.readUnwritten p)) ∧
    (p = .stat ∧ statErr s.stat = 3 → step s = .fault .reservedErr) ∧
    (¬((p = .res ∧ s.written.res = false) ∨ (p = .txf ∧ s.written.txf = false) ∨ (p = .stb ∧ s.written.stb = false) ∨
        (p = .cwf ∧ s.written.cwf = false) ∨ (p = .adf ∧ s.written.adf = false) ∨ (p = .stat ∧ statErr s.stat = 3)) →
      step s = .next { s with inputs := rest })

/-- R113, 93 I8, in two steps: an operation, then the use of a port whose register it writes. If the operation failed the
use is the controller's fault; if it ended OK the use changes nothing. And an operation changes no record of a port whose
register it does not write. THE MODEL'S CHOICE (log entry 7): that use and read are two events, and the record. -/
def Obligations.FailedResultsMustNotBeUsed : Prop :=
  ∀ (s : State) (cmd : CmdWord) (din : Word) (i : Instr) (p q : OutPort) (rest : List Event),
    s.inputs = .op cmd din :: .useResult p :: rest → decode cmd din = i →
    ∃ u, step s = .next u ∧
      ((p = .res ∧ ((∃ n, i = .dec n) ∨ i = .rraw ∨ i = .rsmt ∨ i = .rfrq ∨ i = .rmem ∨ i = .rcwm ∨ i = .ragc)) ∨
          (p = .txf ∧ i = .rtxs) ∨ (p = .stb ∧ i = .rfrq) ∨ (p = .cwf ∧ i = .rcwm) ∨ (p = .adf ∧ i = .ragc) →
        (statErr u.stat ≠ 0 → portFlag s.written p = some false → step u = .fault (.readUnwritten p)) ∧
        (statErr u.stat ≠ 0 → portFlag s.written p = some true → step u = .fault (.staleResult p)) ∧
        (statErr u.stat = 0 → step u = .next { u with inputs := rest })) ∧
      (portFlag (resultRegs i) q ≠ some true → portFlag u.failed q = portFlag s.failed q)

/-- R32: every output port shows its own register, and the fields of CWF, ADF and STAT stand on their ports where R27, R28
and R29 put them. -/
def Obligations.PortLayouts : Prop :=
  ∀ s : State,
    s.portValue .frameOut = .frame s.frame ∧ s.portValue .fv = .bit s.fv ∧ s.portValue .res = .word s.res ∧
    s.portValue .txf = .bit s.txf ∧ s.portValue .stb = .byte s.stb ∧
    (∃ n, s.portValue .cwf = .nibble n ∧ n.toNat = s.cwf.mtr.toNat + 4 * s.cwf.key.toNat + 8 * s.cwf.bk.toNat) ∧
    (∃ n, s.portValue .adf = .nibble n ∧
      n.toNat = s.adf.nf.toNat + 2 * s.adf.nr.toNat + 4 * s.adf.dsp.toNat + 8 * s.adf.agc.toNat) ∧
    (∃ b, s.portValue .stat = .byte b ∧
      b.toNat = (statErr s.stat).toNat + 4 * (statTrunc s.stat).toNat + 8 * (statSticky s.stat).toNat)

/-- R61 (rows get VFO selection and get split status), R87: after the memory read the result is the field VFO_FIELD or
SPLIT_FIELD of the value byte, for every value of the two. That a field is one bit and a polarity is the model's
reading of R8 (log entry 9). -/
def Obligations.VfoAndSplitFlagsComeFromTheValueByte : Prop :=
  ∀ (s : State) (b0 b1 : Byte) (e : Env), Delivers [b0, b1] s.env e →
    ∃ t, exec .rmem s = .next t ∧ Action.getVfo.responseOp = [.rmem] ∧ Action.getSplit.responseOp = [.rmem] ∧
      Action.getVfo.result t =
        some (.flag (b0.toNat.testBit Config.vfoField.bit.val == Config.vfoField.activeHigh)) ∧
      Action.getSplit.result t =
        some (.flag (b0.toNat.testBit Config.splitField.bit.val == Config.splitField.activeHigh))

/-- R99, R89, R96: after each operation the controller reads from the STAT port how it ended, and that read changes nothing.
ILLEGAL is read exactly after a reserved word, TIMEOUT where an element timed out, OK where all came. THE MODEL'S CHOICE:
that operations and reads are events (log entry 3). -/
def Obligations.OutcomeIsReadAfterEachOperation : Prop :=
  ∀ (s : State) (cmd : CmdWord) (din : Word) (rest : List Event), s.inputs = .op cmd din :: .read .stat :: rest →
    ∃ u b x, step s = .next u ∧ step u = .next { u with inputs := rest } ∧
      u.portValue .stat = .byte b ∧ errOf (statErr b) = some x ∧ u.outcome = some x ∧
      (x = .illegal ↔ (decode cmd din).wellFormed = false) ∧
      (∀ taken e, taken.length < rxCount (decode cmd din) → TimesOutAfter taken s.env e → x = .timeout) ∧
      (∀ bs e, (decode cmd din).wellFormed = true → bs.length = rxCount (decode cmd din) → Delivers bs s.env e → x = .ok)

/-- R99, R61 (column result), R113: an action whose response timed out reports a typed failure, whatever its result port
shows, and does not use the port; one whose bytes all came reports the value R61 gives it; and ERR = 2 is reported as a
failure too. That a flag field is one bit and a polarity, in `flagOf`, is the model's reading of R8 (log entry 9). -/
def Obligations.ActionsReportTypedFailures : Prop :=
  ∀ (a : Action) (s : State),
    (∀ i ∈ a.responseOp,
      (∀ taken e, taken.length < rxCount i → TimesOutAfter taken s.env e →
        ∃ t, exec i s = .next t ∧ a.result t = some (.failed .timeout) ∧ a.resultEvents t.outcome = []) ∧
      (∀ bs e, bs.length = rxCount i → Delivers bs s.env e → ∃ t, exec i s = .next t ∧
        (a.resultPort = none → a.result t = some .done ∧ a.resultEvents t.outcome = []) ∧
        (∀ p, a.resultPort = some p → a.resultEvents t.outcome = [.useResult p] ∧
          (a.resultField = none → a.result t = some (.port (t.portValue p))) ∧
          (∀ f, a.resultField = some f → a.result t = some (.flag (flagOf f t.res)))))) ∧
    (statErr s.stat = 1 → a.result s = some (.failed .timeout)) ∧
    (statErr s.stat = 2 → a.result s = some (.failed .illegal))

/-- R61, R99, R108, R113: from every state, a controller that issues an action's whole transaction, reads STAT after each
operation and then takes the result only where STAT says OK, meets no fault: nothing unwritten is read, no failed
operation's register is used and no SEND comes before its frame. Five bytes go to the line, the last the action's opcode,
and the report is the action's value or a typed Timeout. THE MODEL'S CHOICES: the controller's acts are events (log
entries 3, 5), SEND is one step (log entry 14), use and read of a result are two events (log entry 7), and a repeater offset
whose product with 100 overflows sends a frame too, which R8 and 92 D39 leave OPEN (log entry 15, the unsafe respect it
names). -/
def Obligations.ActionTransactionsNeverFault : Prop :=
  ∀ (a : Action) (s : State) (rest : List Event), s.inputs = a.events ++ rest →
    ∃ t b0 b1 b2 b3, Reaches a.events.length s t ∧ t.inputs = rest ∧
      t.env.txLine = s.env.txLine ++ [b0, b1, b2, b3, Config.opc a.command] ∧
      ((statErr t.stat = 0 ∧ a.result t = some (a.value t)) ∨
        (statErr t.stat = 1 ∧ a.result t = some (.failed .timeout))) ∧
      ∀ rest', Reaches (a.resultEvents t.outcome).length { t with inputs := a.resultEvents t.outcome ++ rest' }
        { t with inputs := rest' }

/-- R61's pseudo-operations: the buffer and the frame they leave. -/
def Obligations.PseudoOperationsFillBufAndFrame : Prop :=
  (∀ (m l : Byte) (s : State), exec (lda m l) s = .next { s with buf := #v[m, l, 0, 0], stat := s.stat &&& 0xFC }) ∧
  (∀ (c : Byte) (s : State), exec (ldc c) s = .next { s with buf := #v[c, 0, 0, 0], stat := s.stat &&& 0xFC }) ∧
  (∀ (opc : Byte) (s : State), exec (frz opc) s = .next { s with
    frame := #v[0, 0, 0, 0, opc], fv := true, stat := s.stat &&& 0xFC })
end

