-- ==== Sys2Proof/Laws/Bytes.lean ====
section
/-! SUPPORT. Reading and writing bytes, nibbles and lanes of the payload buffer. -/

namespace Sys2Proof.Machine

/-- A byte read after a byte write. -/
theorem byteAt_setByte (buf : Buf) {i : Nat} (j : Nat) (b : Byte) (h : i < 4) :
    byteAt (setByte buf i b) j = if i = j then b else byteAt buf j := by
  simp only [byteAt, setByte, Vector.getElem?_setIfInBounds]
  split <;> simp_all

@[simp] theorem hiNibble_packByte (hi lo : BitVec 4) : hiNibble (packByte hi lo) = hi := by
  revert hi lo; decide

@[simp] theorem loNibble_packByte (hi lo : BitVec 4) : loNibble (packByte hi lo) = lo := by
  revert hi lo; decide

/-- An even lane is a high nibble. -/
theorem lane_even (b : Buf) (i : Nat) : lane b (2 * i) = hiNibble (byteAt b i) := by
  simp [lane]

/-- An odd lane is a low nibble. -/
theorem lane_odd (b : Buf) (i : Nat) : lane b (2 * i + 1) = loNibble (byteAt b i) := by
  have hd : (2 * i + 1) / 2 = i := by omega
  have hm : (2 * i + 1) % 2 = 1 := by omega
  simp [lane, hd, hm]

/-- A digit is a decimal digit. -/
@[simp] theorem digit_toNat (w : Nat) : (digit w).toNat = w % 10 := by
  have : w % 10 < 16 := by omega
  simp [digit, Nat.mod_eq_of_lt this]

/-- A buffer is its four bytes. -/
theorem buf_ext {a b : Buf} (h : ∀ i < 4, byteAt a i = byteAt b i) : a = b := by
  ext i hi
  have := h i hi
  simp_all [byteAt]

end Sys2Proof.Machine
end

