-- ==== Sys2Proof/Laws/Stat.lean ====
section
/-! SUPPORT. What each write of a STAT field leaves in every field of STAT, and what the ends of an operation do. -/

namespace Sys2Proof.Machine

/-- The unused bits STAT[7:4] (R29). -/
abbrev statRest (b : Byte) : BitVec 4 := b.extractLsb' 4 4

@[simp] theorem statErr_setErr_ok (b : Byte) : statErr (setErr .ok b) = 0 := by revert b; decide
@[simp] theorem statErr_setErr_timeout (b : Byte) : statErr (setErr .timeout b) = 1 := by revert b; decide
@[simp] theorem statErr_setErr_illegal (b : Byte) : statErr (setErr .illegal b) = 2 := by revert b; decide
@[simp] theorem statTrunc_setErr (e : Err) (b : Byte) : statTrunc (setErr e b) = statTrunc b := by
  cases e <;> (revert b; decide)
@[simp] theorem statSticky_setErr (e : Err) (b : Byte) : statSticky (setErr e b) = statSticky b := by
  cases e <;> (revert b; decide)
@[simp] theorem statRest_setErr (e : Err) (b : Byte) : statRest (setErr e b) = statRest b := by
  cases e <;> (revert b; decide)

@[simp] theorem statErr_setTrunc (t : Bool) (b : Byte) : statErr (setTrunc t b) = statErr b := by
  cases t <;> (revert b; decide)
@[simp] theorem statTrunc_setTrunc (t : Bool) (b : Byte) : statTrunc (setTrunc t b) = t := by
  cases t <;> (revert b; decide)
@[simp] theorem statSticky_setTrunc (t : Bool) (b : Byte) : statSticky (setTrunc t b) = statSticky b := by
  cases t <;> (revert b; decide)
@[simp] theorem statRest_setTrunc (t : Bool) (b : Byte) : statRest (setTrunc t b) = statRest b := by
  cases t <;> (revert b; decide)

@[simp] theorem statErr_setSticky (b : Byte) : statErr (setSticky b) = statErr b := by revert b; decide
@[simp] theorem statTrunc_setSticky (b : Byte) : statTrunc (setSticky b) = statTrunc b := by revert b; decide
@[simp] theorem statSticky_setSticky (b : Byte) : statSticky (setSticky b) = true := by revert b; decide
@[simp] theorem statRest_setSticky (b : Byte) : statRest (setSticky b) = statRest b := by revert b; decide

/-- The STAT port shows ERR as the register holds it (R29). -/
@[simp] theorem statErr_statPort (b : Byte) : statErr (statPort b) = statErr b := by revert b; decide
@[simp] theorem errOf_ok : errOf 0#2 = some .ok := rfl
@[simp] theorem errOf_timeout : errOf 1#2 = some .timeout := rfl
@[simp] theorem errOf_illegal : errOf 2#2 = some .illegal := rfl
/-- Every outcome that an operation writes can be read back (R89, R99). -/
@[simp] theorem errOf_statErr_setErr (e : Err) (b : Byte) : errOf (statErr (setErr e b)) = some e := by
  cases e <;> simp

/-- Everything `complete` does. -/
theorem complete_spec (s : State) : complete s = { s with stat := setErr .ok s.stat } := rfl

/-- Everything raising an exception does: STAT only, its ERR and STICKY. -/
theorem raise_spec (x : Exc) (s : State) : raise x s = { s with stat := setSticky (setErr x.err s.stat) } := rfl

@[simp] theorem Exc.err_timeout : Exc.timeout.err = .timeout := rfl
@[simp] theorem Exc.err_illegal : Exc.illegal.err = .illegal := rfl

/-- What the controller reads after an operation that completed (R90, R99). -/
@[simp] theorem outcome_complete (s : State) : (complete s).outcome = some .ok := by
  simp [State.outcome, complete_spec]
/-- What the controller reads after an exception (R91, R92, R99). -/
@[simp] theorem outcome_raise (x : Exc) (s : State) : (raise x s).outcome = some x.err := by
  simp [State.outcome, raise_spec]
/-- Keeping the record of failed results leaves the outcome. -/
@[simp] theorem outcome_noteOutcome (i : Instr) (s : State) : (s.noteOutcome i).outcome = s.outcome := rfl
@[simp] theorem outcome_setInputs (l : List Event) (s : State) : (s.setInputs l).outcome = s.outcome := rfl

end Sys2Proof.Machine
end

