-- ==== Sys2Proof/Laws/Controller.lean ====
section
/-! SUPPORT. What the controller reports for each outcome of an action, and what it then does with the result port, said
once (spec 60 R99; 70 R113). -/

namespace Sys2Proof.Machine

/-- After OK the report is the action's value. -/
theorem Action.result_of_ok {s : State} (a : Action) (h : s.outcome = some .ok) :
    a.result s = some (a.value s) := by simp [Action.result, h]

/-- After a failure the report is that failure, whatever the ports show. -/
theorem Action.result_of_failure {s : State} (a : Action) (x : Exc) (h : s.outcome = some x.err) :
    a.result s = some (.failed x) := by cases x <;> simp [Action.result, h]

/-- After a failure the controller uses no result port. -/
theorem Action.resultEvents_of_failure (a : Action) (x : Exc) : a.resultEvents (some x.err) = [] := by
  cases x <;> rfl
@[simp] theorem Action.resultEvents_timeout (a : Action) : a.resultEvents (some .timeout) = [] := rfl
@[simp] theorem Action.resultEvents_illegal (a : Action) : a.resultEvents (some .illegal) = [] := rfl

/-- After OK the controller uses the action's result port, if it has one. -/
@[simp] theorem Action.resultEvents_of_ok (a : Action) :
    a.resultEvents (some .ok) = a.resultPort.toList.map Event.useResult := by
  cases h : a.resultPort <;> simp [Action.resultEvents, h]

end Sys2Proof.Machine
end

