-- ==== Sys2Proof/Laws/Encoding.lean ====
section
/-! SUPPORT. The three fields of a command word built by mkCmd (spec 30 R49). -/

namespace Sys2Proof

@[simp] theorem cmdOp_mkCmd (opc : Byte) (n op : BitVec 4) : cmdOp (mkCmd opc n op) = op := by
  ext i hi
  have h8 : i < 8 := by omega
  have h16 : i < 16 := by omega
  simp [cmdOp, mkCmd, hi, h8, h16]

@[simp] theorem cmdN_mkCmd (opc : Byte) (n op : BitVec 4) : cmdN (mkCmd opc n op) = n := by
  ext i hi
  have h8 : 4 + i < 8 := by omega
  have h16 : 4 + i < 16 := by omega
  simp [cmdN, mkCmd, hi, h8, h16]

@[simp] theorem cmdOpc_mkCmd (opc : Byte) (n op : BitVec 4) : cmdOpc (mkCmd opc n op) = opc := by
  ext i hi
  have h16 : 8 + i < 16 := by omega
  have h4 : 8 + i - 4 = 4 + i := by omega
  have hop : op.getLsbD (8 + i) = false := BitVec.getLsbD_of_ge _ _ (by omega)
  simp [cmdOpc, mkCmd, hi, h16, h4, hop]

end Sys2Proof
end

