-- ==== Sys2Proof/Laws/Rx.lean ====
section
/-! SUPPORT. The receive port: what one `rx()` and a run of them can do, and the two ends of a response operation. -/

namespace Sys2Proof.Machine

/-- One `rx()` never touches the line to the radio. -/
@[simp] theorem rx_txLine (e : Env) : (rx e).2.txLine = e.txLine := by
  unfold rx; split
  · rfl
  · split <;> rfl

/-- A byte that waits in the buffer is the next element. -/
theorem rx_of_rxBuf {e : Env} {b : Byte} {bs : List Byte} (h : e.rxBuf = b :: bs) :
    rx e = (.byte b, { e with rxBuf := bs }) := by
  simp [rx, h]

/-- With the buffer empty, the script answers. -/
theorem rx_of_rxScript {e : Env} {x : RxElem} {xs : List RxElem} (hb : e.rxBuf = []) (h : e.rxScript = x :: xs) :
    rx e = (x, { e with rxScript := xs }) := by
  simp [rx, hb, h]

@[simp] theorem rxTake_zero (e : Env) : rxTake 0 e = (some [], e) := rfl

/-- The first of `k + 1` elements is Timeout: nothing more is taken. -/
theorem rxTake_succ_timeout {e e1 : Env} (k : Nat) (h : rx e = (.timeout, e1)) : rxTake (k + 1) e = (none, e1) := by
  simp [rxTake, h]

/-- The first of `k + 1` elements is a byte. -/
theorem rxTake_succ_byte {e e1 : Env} {b : Byte} (k : Nat) (h : rx e = (.byte b, e1)) :
    rxTake (k + 1) e = ((rxTake k e1).1.map (b :: ·), (rxTake k e1).2) := by
  simp [rxTake, h]

/-- A response operation's bytes are exactly as many as it asks for. -/
theorem rxTake_length {k : Nat} {e e' : Env} {bs : List Byte} (h : rxTake k e = (some bs, e')) : bs.length = k := by
  induction k generalizing e bs e' with
  | zero => simp_all [rxTake]
  | succ k ih =>
    cases hr : rx e with
    | mk x e1 =>
      cases x with
      | timeout => simp [rxTake_succ_timeout k hr] at h
      | byte b =>
        rw [rxTake_succ_byte k hr] at h
        cases ht : rxTake k e1 with
        | mk o e2 =>
          cases o with
          | none => simp [ht] at h
          | some cs =>
            simp [ht] at h
            simp [← h.1, ih ht]

/-- Taking elements never touches the line to the radio. -/
@[simp] theorem rxTake_txLine (k : Nat) (e : Env) : (rxTake k e).2.txLine = e.txLine := by
  induction k generalizing e with
  | zero => rfl
  | succ k ih =>
    have hx := rx_txLine e
    cases hr : rx e with
    | mk x e1 =>
      rw [hr] at hx
      cases x with
      | timeout => simpa [rxTake_succ_timeout k hr] using hx
      | byte b => rw [rxTake_succ_byte k hr]; exact (ih e1).trans hx

/-- All bytes arrived: the result writes, then OK. -/
theorem respondState_some {k : Nat} {f : List Byte → State → State} {s : State} {bs : List Byte} {e : Env}
    (h : rxTake k s.env = (some bs, e)) : respondState k f s = complete (f bs (s.setEnv e)) := by
  simp [respondState, h]

/-- An element timed out: STAT only, and the elements taken are gone. -/
theorem respondState_none {k : Nat} {f : List Byte → State → State} {s : State} {e : Env}
    (h : rxTake k s.env = (none, e)) : respondState k f s = raise .timeout (s.setEnv e) := by
  simp [respondState, h]

/-- Everything a response operation can do. -/
theorem respondState_cases (k : Nat) (f : List Byte → State → State) (s : State) :
    (∃ bs e, bs.length = k ∧ rxTake k s.env = (some bs, e) ∧ respondState k f s = complete (f bs (s.setEnv e))) ∨
    (∃ e, rxTake k s.env = (none, e) ∧ respondState k f s = raise .timeout (s.setEnv e)) := by
  cases h : rxTake k s.env with
  | mk o e =>
    cases o with
    | none => exact .inr ⟨e, rfl, respondState_none h⟩
    | some bs => exact .inl ⟨bs, e, rxTake_length h, rfl, respondState_some h⟩

end Sys2Proof.Machine
end

