-- ==== Sys2Proof/Laws/State.lean ====
section
/-! SUPPORT. What each update of State leaves in each field: true by definition, for simp. -/

namespace Sys2Proof.Machine

section setBuf

variable (b : Buf) (s : State)

@[simp] theorem State.setBuf_buf : (s.setBuf b).buf = b := rfl
@[simp] theorem State.setBuf_frame : (s.setBuf b).frame = s.frame := rfl
@[simp] theorem State.setBuf_fv : (s.setBuf b).fv = s.fv := rfl
@[simp] theorem State.setBuf_res : (s.setBuf b).res = s.res := rfl
@[simp] theorem State.setBuf_txf : (s.setBuf b).txf = s.txf := rfl
@[simp] theorem State.setBuf_stb : (s.setBuf b).stb = s.stb := rfl
@[simp] theorem State.setBuf_cwf : (s.setBuf b).cwf = s.cwf := rfl
@[simp] theorem State.setBuf_adf : (s.setBuf b).adf = s.adf := rfl
@[simp] theorem State.setBuf_stat : (s.setBuf b).stat = s.stat := rfl
@[simp] theorem State.setBuf_written : (s.setBuf b).written = s.written := rfl
@[simp] theorem State.setBuf_failed : (s.setBuf b).failed = s.failed := rfl
@[simp] theorem State.setBuf_resets : (s.setBuf b).resets = s.resets := rfl
@[simp] theorem State.setBuf_env : (s.setBuf b).env = s.env := rfl
@[simp] theorem State.setBuf_inputs : (s.setBuf b).inputs = s.inputs := rfl

end setBuf

section setFrame

variable (f : Frame) (s : State)

@[simp] theorem State.setFrame_buf : (s.setFrame f).buf = s.buf := rfl
@[simp] theorem State.setFrame_frame : (s.setFrame f).frame = f := rfl
@[simp] theorem State.setFrame_fv : (s.setFrame f).fv = true := rfl
@[simp] theorem State.setFrame_res : (s.setFrame f).res = s.res := rfl
@[simp] theorem State.setFrame_txf : (s.setFrame f).txf = s.txf := rfl
@[simp] theorem State.setFrame_stb : (s.setFrame f).stb = s.stb := rfl
@[simp] theorem State.setFrame_cwf : (s.setFrame f).cwf = s.cwf := rfl
@[simp] theorem State.setFrame_adf : (s.setFrame f).adf = s.adf := rfl
@[simp] theorem State.setFrame_stat : (s.setFrame f).stat = s.stat := rfl
@[simp] theorem State.setFrame_written : (s.setFrame f).written = s.written := rfl
@[simp] theorem State.setFrame_failed : (s.setFrame f).failed = s.failed := rfl
@[simp] theorem State.setFrame_resets : (s.setFrame f).resets = s.resets := rfl
@[simp] theorem State.setFrame_env : (s.setFrame f).env = s.env := rfl
@[simp] theorem State.setFrame_inputs : (s.setFrame f).inputs = s.inputs := rfl

end setFrame

section setStat

variable (b : Byte) (s : State)

@[simp] theorem State.setStat_buf : (s.setStat b).buf = s.buf := rfl
@[simp] theorem State.setStat_frame : (s.setStat b).frame = s.frame := rfl
@[simp] theorem State.setStat_fv : (s.setStat b).fv = s.fv := rfl
@[simp] theorem State.setStat_res : (s.setStat b).res = s.res := rfl
@[simp] theorem State.setStat_txf : (s.setStat b).txf = s.txf := rfl
@[simp] theorem State.setStat_stb : (s.setStat b).stb = s.stb := rfl
@[simp] theorem State.setStat_cwf : (s.setStat b).cwf = s.cwf := rfl
@[simp] theorem State.setStat_adf : (s.setStat b).adf = s.adf := rfl
@[simp] theorem State.setStat_stat : (s.setStat b).stat = b := rfl
@[simp] theorem State.setStat_written : (s.setStat b).written = s.written := rfl
@[simp] theorem State.setStat_failed : (s.setStat b).failed = s.failed := rfl
@[simp] theorem State.setStat_resets : (s.setStat b).resets = s.resets := rfl
@[simp] theorem State.setStat_env : (s.setStat b).env = s.env := rfl
@[simp] theorem State.setStat_inputs : (s.setStat b).inputs = s.inputs := rfl

end setStat

section setRes

variable (v : Word) (s : State)

@[simp] theorem State.setRes_buf : (s.setRes v).buf = s.buf := rfl
@[simp] theorem State.setRes_frame : (s.setRes v).frame = s.frame := rfl
@[simp] theorem State.setRes_fv : (s.setRes v).fv = s.fv := rfl
@[simp] theorem State.setRes_res : (s.setRes v).res = v := rfl
@[simp] theorem State.setRes_txf : (s.setRes v).txf = s.txf := rfl
@[simp] theorem State.setRes_stb : (s.setRes v).stb = s.stb := rfl
@[simp] theorem State.setRes_cwf : (s.setRes v).cwf = s.cwf := rfl
@[simp] theorem State.setRes_adf : (s.setRes v).adf = s.adf := rfl
@[simp] theorem State.setRes_stat : (s.setRes v).stat = s.stat := rfl
@[simp] theorem State.setRes_written : (s.setRes v).written = { s.written with res := true } := rfl
@[simp] theorem State.setRes_failed : (s.setRes v).failed = s.failed := rfl
@[simp] theorem State.setRes_resets : (s.setRes v).resets = s.resets := rfl
@[simp] theorem State.setRes_env : (s.setRes v).env = s.env := rfl
@[simp] theorem State.setRes_inputs : (s.setRes v).inputs = s.inputs := rfl

end setRes

section setTxf

variable (b : Bool) (s : State)

@[simp] theorem State.setTxf_buf : (s.setTxf b).buf = s.buf := rfl
@[simp] theorem State.setTxf_frame : (s.setTxf b).frame = s.frame := rfl
@[simp] theorem State.setTxf_fv : (s.setTxf b).fv = s.fv := rfl
@[simp] theorem State.setTxf_res : (s.setTxf b).res = s.res := rfl
@[simp] theorem State.setTxf_txf : (s.setTxf b).txf = b := rfl
@[simp] theorem State.setTxf_stb : (s.setTxf b).stb = s.stb := rfl
@[simp] theorem State.setTxf_cwf : (s.setTxf b).cwf = s.cwf := rfl
@[simp] theorem State.setTxf_adf : (s.setTxf b).adf = s.adf := rfl
@[simp] theorem State.setTxf_stat : (s.setTxf b).stat = s.stat := rfl
@[simp] theorem State.setTxf_written : (s.setTxf b).written = { s.written with txf := true } := rfl
@[simp] theorem State.setTxf_failed : (s.setTxf b).failed = s.failed := rfl
@[simp] theorem State.setTxf_resets : (s.setTxf b).resets = s.resets := rfl
@[simp] theorem State.setTxf_env : (s.setTxf b).env = s.env := rfl
@[simp] theorem State.setTxf_inputs : (s.setTxf b).inputs = s.inputs := rfl

end setTxf

section setStb

variable (b : Byte) (s : State)

@[simp] theorem State.setStb_buf : (s.setStb b).buf = s.buf := rfl
@[simp] theorem State.setStb_frame : (s.setStb b).frame = s.frame := rfl
@[simp] theorem State.setStb_fv : (s.setStb b).fv = s.fv := rfl
@[simp] theorem State.setStb_res : (s.setStb b).res = s.res := rfl
@[simp] theorem State.setStb_txf : (s.setStb b).txf = s.txf := rfl
@[simp] theorem State.setStb_stb : (s.setStb b).stb = b := rfl
@[simp] theorem State.setStb_cwf : (s.setStb b).cwf = s.cwf := rfl
@[simp] theorem State.setStb_adf : (s.setStb b).adf = s.adf := rfl
@[simp] theorem State.setStb_stat : (s.setStb b).stat = s.stat := rfl
@[simp] theorem State.setStb_written : (s.setStb b).written = { s.written with stb := true } := rfl
@[simp] theorem State.setStb_failed : (s.setStb b).failed = s.failed := rfl
@[simp] theorem State.setStb_resets : (s.setStb b).resets = s.resets := rfl
@[simp] theorem State.setStb_env : (s.setStb b).env = s.env := rfl
@[simp] theorem State.setStb_inputs : (s.setStb b).inputs = s.inputs := rfl

end setStb

section setCwf

variable (c : Cwf) (s : State)

@[simp] theorem State.setCwf_buf : (s.setCwf c).buf = s.buf := rfl
@[simp] theorem State.setCwf_frame : (s.setCwf c).frame = s.frame := rfl
@[simp] theorem State.setCwf_fv : (s.setCwf c).fv = s.fv := rfl
@[simp] theorem State.setCwf_res : (s.setCwf c).res = s.res := rfl
@[simp] theorem State.setCwf_txf : (s.setCwf c).txf = s.txf := rfl
@[simp] theorem State.setCwf_stb : (s.setCwf c).stb = s.stb := rfl
@[simp] theorem State.setCwf_cwf : (s.setCwf c).cwf = c := rfl
@[simp] theorem State.setCwf_adf : (s.setCwf c).adf = s.adf := rfl
@[simp] theorem State.setCwf_stat : (s.setCwf c).stat = s.stat := rfl
@[simp] theorem State.setCwf_written : (s.setCwf c).written = { s.written with cwf := true } := rfl
@[simp] theorem State.setCwf_failed : (s.setCwf c).failed = s.failed := rfl
@[simp] theorem State.setCwf_resets : (s.setCwf c).resets = s.resets := rfl
@[simp] theorem State.setCwf_env : (s.setCwf c).env = s.env := rfl
@[simp] theorem State.setCwf_inputs : (s.setCwf c).inputs = s.inputs := rfl

end setCwf

section setAdf

variable (a : Adf) (s : State)

@[simp] theorem State.setAdf_buf : (s.setAdf a).buf = s.buf := rfl
@[simp] theorem State.setAdf_frame : (s.setAdf a).frame = s.frame := rfl
@[simp] theorem State.setAdf_fv : (s.setAdf a).fv = s.fv := rfl
@[simp] theorem State.setAdf_res : (s.setAdf a).res = s.res := rfl
@[simp] theorem State.setAdf_txf : (s.setAdf a).txf = s.txf := rfl
@[simp] theorem State.setAdf_stb : (s.setAdf a).stb = s.stb := rfl
@[simp] theorem State.setAdf_cwf : (s.setAdf a).cwf = s.cwf := rfl
@[simp] theorem State.setAdf_adf : (s.setAdf a).adf = a := rfl
@[simp] theorem State.setAdf_stat : (s.setAdf a).stat = s.stat := rfl
@[simp] theorem State.setAdf_written : (s.setAdf a).written = { s.written with adf := true } := rfl
@[simp] theorem State.setAdf_failed : (s.setAdf a).failed = s.failed := rfl
@[simp] theorem State.setAdf_resets : (s.setAdf a).resets = s.resets := rfl
@[simp] theorem State.setAdf_env : (s.setAdf a).env = s.env := rfl
@[simp] theorem State.setAdf_inputs : (s.setAdf a).inputs = s.inputs := rfl

end setAdf

section setEnv

variable (e : Env) (s : State)

@[simp] theorem State.setEnv_buf : (s.setEnv e).buf = s.buf := rfl
@[simp] theorem State.setEnv_frame : (s.setEnv e).frame = s.frame := rfl
@[simp] theorem State.setEnv_fv : (s.setEnv e).fv = s.fv := rfl
@[simp] theorem State.setEnv_res : (s.setEnv e).res = s.res := rfl
@[simp] theorem State.setEnv_txf : (s.setEnv e).txf = s.txf := rfl
@[simp] theorem State.setEnv_stb : (s.setEnv e).stb = s.stb := rfl
@[simp] theorem State.setEnv_cwf : (s.setEnv e).cwf = s.cwf := rfl
@[simp] theorem State.setEnv_adf : (s.setEnv e).adf = s.adf := rfl
@[simp] theorem State.setEnv_stat : (s.setEnv e).stat = s.stat := rfl
@[simp] theorem State.setEnv_written : (s.setEnv e).written = s.written := rfl
@[simp] theorem State.setEnv_failed : (s.setEnv e).failed = s.failed := rfl
@[simp] theorem State.setEnv_resets : (s.setEnv e).resets = s.resets := rfl
@[simp] theorem State.setEnv_env : (s.setEnv e).env = e := rfl
@[simp] theorem State.setEnv_inputs : (s.setEnv e).inputs = s.inputs := rfl

end setEnv

section setInputs

variable (l : List Event) (s : State)

@[simp] theorem State.setInputs_buf : (s.setInputs l).buf = s.buf := rfl
@[simp] theorem State.setInputs_frame : (s.setInputs l).frame = s.frame := rfl
@[simp] theorem State.setInputs_fv : (s.setInputs l).fv = s.fv := rfl
@[simp] theorem State.setInputs_res : (s.setInputs l).res = s.res := rfl
@[simp] theorem State.setInputs_txf : (s.setInputs l).txf = s.txf := rfl
@[simp] theorem State.setInputs_stb : (s.setInputs l).stb = s.stb := rfl
@[simp] theorem State.setInputs_cwf : (s.setInputs l).cwf = s.cwf := rfl
@[simp] theorem State.setInputs_adf : (s.setInputs l).adf = s.adf := rfl
@[simp] theorem State.setInputs_stat : (s.setInputs l).stat = s.stat := rfl
@[simp] theorem State.setInputs_written : (s.setInputs l).written = s.written := rfl
@[simp] theorem State.setInputs_failed : (s.setInputs l).failed = s.failed := rfl
@[simp] theorem State.setInputs_resets : (s.setInputs l).resets = s.resets := rfl
@[simp] theorem State.setInputs_env : (s.setInputs l).env = s.env := rfl
@[simp] theorem State.setInputs_inputs : (s.setInputs l).inputs = l := rfl

end setInputs

/-- A marked record at a port: the mark on the selected registers, the old flag on the others. -/
theorem portFlag_markRegs (sel r : ResultRegs) (b : Bool) (p : OutPort) :
    portFlag (markRegs sel b r) p = if portFlag sel p = some true then some b else portFlag r p := by
  cases p <;> simp only [portFlag, markRegs, Option.some.injEq] <;> (try split) <;> simp_all

section noteOutcome

variable (i : Instr) (s : State)

@[simp] theorem State.noteOutcome_buf : (s.noteOutcome i).buf = s.buf := rfl
@[simp] theorem State.noteOutcome_frame : (s.noteOutcome i).frame = s.frame := rfl
@[simp] theorem State.noteOutcome_fv : (s.noteOutcome i).fv = s.fv := rfl
@[simp] theorem State.noteOutcome_res : (s.noteOutcome i).res = s.res := rfl
@[simp] theorem State.noteOutcome_txf : (s.noteOutcome i).txf = s.txf := rfl
@[simp] theorem State.noteOutcome_stb : (s.noteOutcome i).stb = s.stb := rfl
@[simp] theorem State.noteOutcome_cwf : (s.noteOutcome i).cwf = s.cwf := rfl
@[simp] theorem State.noteOutcome_adf : (s.noteOutcome i).adf = s.adf := rfl
@[simp] theorem State.noteOutcome_stat : (s.noteOutcome i).stat = s.stat := rfl
@[simp] theorem State.noteOutcome_written : (s.noteOutcome i).written = s.written := rfl
@[simp] theorem State.noteOutcome_resets : (s.noteOutcome i).resets = s.resets := rfl
@[simp] theorem State.noteOutcome_env : (s.noteOutcome i).env = s.env := rfl
@[simp] theorem State.noteOutcome_inputs : (s.noteOutcome i).inputs = s.inputs := rfl
@[simp] theorem State.noteOutcome_failed :
    (s.noteOutcome i).failed = markRegs (resultRegs i) (decide (statErr s.stat ≠ 0)) s.failed := rfl

end noteOutcome

section resetRegs

variable (s : State)

@[simp] theorem State.resetRegs_buf : s.resetRegs.buf = Config.bufInit s.resets := rfl
@[simp] theorem State.resetRegs_frame : s.resetRegs.frame = Config.frameInit s.resets := rfl
@[simp] theorem State.resetRegs_fv : s.resetRegs.fv = false := rfl
@[simp] theorem State.resetRegs_res : s.resetRegs.res = Config.resInit s.resets := rfl
@[simp] theorem State.resetRegs_txf : s.resetRegs.txf = Config.txfInit s.resets := rfl
@[simp] theorem State.resetRegs_stb : s.resetRegs.stb = Config.stbInit s.resets := rfl
@[simp] theorem State.resetRegs_cwf : s.resetRegs.cwf = Config.cwfInit s.resets := rfl
@[simp] theorem State.resetRegs_adf : s.resetRegs.adf = Config.adfInit s.resets := rfl
@[simp] theorem State.resetRegs_stat : s.resetRegs.stat = 0x00 := rfl
@[simp] theorem State.resetRegs_written : s.resetRegs.written = ⟨false, false, false, false, false⟩ := rfl
@[simp] theorem State.resetRegs_failed : s.resetRegs.failed = ⟨false, false, false, false, false⟩ := rfl
@[simp] theorem State.resetRegs_resets : s.resetRegs.resets = s.resets + 1 := rfl
@[simp] theorem State.resetRegs_env : s.resetRegs.env = s.env := rfl
@[simp] theorem State.resetRegs_inputs : s.resetRegs.inputs = s.inputs := rfl

end resetRegs

end Sys2Proof.Machine
end

