-- ==== Sys2Proof/Laws/Exec.lean ====
section
/-! SUPPORT. What an operation and a step can do, said once: the delivered bytes are the taken bytes, the three ways an operation
ends, and the cases of a step that answers a next state. -/

namespace Sys2Proof.Machine

/-- Delivered bytes are what `rxTake` takes. -/
theorem rxTake_of_delivers {bs : List Byte} {e e' : Env} (h : Delivers bs e e') :
    rxTake bs.length e = (some bs, e') := by
  induction bs generalizing e with
  | nil => cases h; rfl
  | cons b bs ih =>
    obtain ⟨e1, hr, hd⟩ := h
    rw [List.length_cons, rxTake_succ_byte _ hr, ih hd]
    rfl

/-- A Timeout before the last byte leaves `rxTake` with none. -/
theorem rxTake_of_timesOut {taken : List Byte} {k : Nat} {e e' : Env} (hk : taken.length < k)
    (h : TimesOutAfter taken e e') : rxTake k e = (none, e') := by
  induction taken generalizing k e with
  | nil =>
    obtain ⟨e1, hd, ht⟩ := h
    cases hd
    obtain ⟨j, rfl⟩ := Nat.exists_eq_succ_of_ne_zero (Nat.ne_of_gt hk)
    exact rxTake_succ_timeout _ ht
  | cons b bs ih =>
    obtain ⟨e1, ⟨e2, hr, hd⟩, ht⟩ := h
    obtain ⟨j, rfl⟩ := Nat.exists_eq_succ_of_ne_zero (Nat.ne_of_gt (Nat.lt_of_le_of_lt (Nat.zero_le _) hk))
    rw [rxTake_succ_byte _ hr, ih (Nat.lt_of_succ_lt_succ hk) ⟨e1, hd, ht⟩]
    rfl

/-- The three ways an operation can end at `t`: complete (R90), Illegal (R92), Timeout (R91). -/
def EndsAs (i : Instr) (s t : State) : Prop :=
  (i.wellFormed = true ∧ ∃ u : State, t = complete u ∧ u.inputs = s.inputs ∧ u.resets = s.resets ∧
    u.env.txLine = s.env.txLine ∧ u.failed = s.failed ∧
    (u.stat = s.stat ∨ ∃ n v, i = .enc n v ∧ u.stat = setTrunc (truncates v n.toNat) s.stat)) ∨
  (i.wellFormed = false ∧ t = raise .illegal s) ∨
  (i.wellFormed = true ∧ ∃ e, rxTake (rxCount i) s.env = (none, e) ∧ t = raise .timeout (s.setEnv e))

/-- How a response operation ends. -/
theorem respond_ends {i : Instr} {s : State} {f : List Byte → State → State}
    (hx : exec i s = respond (rxCount i) f s) (hw : i.wellFormed = true)
    (hf : ∀ bs u, (f bs u).stat = u.stat ∧ (f bs u).inputs = u.inputs ∧ (f bs u).resets = u.resets ∧
      (f bs u).env = u.env ∧ (f bs u).failed = u.failed) : ∃ t, exec i s = .next t ∧ EndsAs i s t := by
  refine ⟨_, hx, ?_⟩
  rcases respondState_cases (rxCount i) f s with ⟨bs, e, _, ht, h⟩ | ⟨e, ht, h⟩
  · obtain ⟨h1, h2, h3, h4, h5⟩ := hf bs (s.setEnv e)
    have hl := rxTake_txLine (rxCount i) s.env
    rw [ht] at hl
    exact .inl ⟨hw, _, h, h2, h3, by rw [h4]; exact hl, h5, .inl h1⟩
  · exact .inr (.inr ⟨hw, e, ht, h⟩)

/-- How an operation with a reserved field value or without one ends. -/
theorem guarded_ends {i : Instr} {s u : State} {limit n : Nat} (hw : i.wellFormed = decide (n ≤ limit))
    (hx : exec i s = .next (if limit < n then raise .illegal s else complete u))
    (hu : u.inputs = s.inputs ∧ u.resets = s.resets ∧ u.env.txLine = s.env.txLine ∧ u.failed = s.failed ∧
      (u.stat = s.stat ∨ ∃ n v, i = .enc n v ∧ u.stat = setTrunc (truncates v n.toNat) s.stat)) :
    ∃ t, exec i s = .next t ∧ EndsAs i s t := by
  refine ⟨_, hx, ?_⟩
  by_cases h : limit < n
  · exact .inr (.inl ⟨by simp [hw, h], if_pos h⟩)
  · exact .inl ⟨by simpa [hw] using h, u, if_neg h, hu⟩

/-- Everything an operation can do, as its end. -/
theorem exec_ends (i : Instr) (s : State) : ∃ t, exec i s = .next t ∧ EndsAs i s t := by
  cases i with
  | nop => exact ⟨_, rfl, .inl ⟨rfl, s, rfl, rfl, rfl, rfl, rfl, .inl rfl⟩⟩
  | clr => exact ⟨_, rfl, .inl ⟨rfl, s.setBuf _, rfl, rfl, rfl, rfl, rfl, .inl rfl⟩⟩
  | ldb w => exact ⟨_, rfl, .inl ⟨rfl, s.setBuf _, rfl, rfl, rfl, rfl, rfl, .inl rfl⟩⟩
  | enc n v => exact guarded_ends rfl rfl ⟨rfl, rfl, rfl, rfl, .inr ⟨n, v, rfl, rfl⟩⟩
  | dec n => exact guarded_ends rfl rfl ⟨rfl, rfl, rfl, rfl, .inl rfl⟩
  | frm l opc => exact guarded_ends rfl rfl ⟨rfl, rfl, rfl, rfl, .inl rfl⟩
  | reservedE => exact ⟨_, rfl, .inr (.inl ⟨rfl, rfl⟩)⟩
  | reservedF => exact ⟨_, rfl, .inr (.inl ⟨rfl, rfl⟩)⟩
  | rack | rraw | rsmt | rtxs | rfrq | rmem | rcwm | ragc =>
    exact respond_ends rfl rfl (fun _ _ => ⟨rfl, rfl, rfl, rfl, rfl⟩)

/-- No operation touches the model's record of failed result registers: the step keeps it, around the operation. -/
theorem exec_failed {i : Instr} {s t : State} (h : exec i s = .next t) : t.failed = s.failed := by
  obtain ⟨t', h', hc⟩ := exec_ends i s
  rw [h] at h'
  cases h'
  rcases hc with ⟨-, u, rfl, -, -, -, hu, -⟩ | ⟨-, rfl⟩ | ⟨-, e, -, rfl⟩
  · exact hu
  · rfl
  · rfl

/-- What SEND does when it answers a next state. -/
theorem doSend_next {s t : State} (h : doSend s = .next t) :
    s.fv = true ∧ t = s.setEnv { s.env with txLine := s.env.txLine ++ s.frame.toList } := by
  unfold doSend at h
  split at h
  · cases h; exact ⟨‹_›, rfl⟩
  · cases h

/-- A port access that answers a next state changes nothing. -/
theorem portAccess_next {f : Option Fault} {s t : State} (h : portAccess f s = .next t) : t = s ∧ f = none := by
  cases f <;> cases h
  exact ⟨rfl, rfl⟩

/-- What is kept of an operation's next state. -/
theorem afterOp_next {i : Instr} {s t : State} (h : afterOp i (exec i s) = .next t) :
    ∃ u, exec i s = .next u ∧ t = u.noteOutcome i := by
  obtain ⟨u, hu, -⟩ := exec_ends i s
  rw [hu] at h
  cases h
  exact ⟨u, hu, rfl⟩

/-- Everything a step that answers a next state can have done. -/
theorem step_next {s t : State} (h : step s = .next t) :
    (s.inputs = [] ∧ t = s) ∨
    (∃ rest, (∃ cmd din, s.inputs = .op cmd din :: rest ∧ ∃ u, exec (decode cmd din) (s.setInputs rest) = .next u ∧
        t = u.noteOutcome (decode cmd din)) ∨
      (s.inputs = .rst :: rest ∧ t = (s.setInputs rest).resetRegs) ∨
      (∃ cmd din taken, s.inputs = .rstDuring cmd din taken :: rest ∧
        t = (s.setInputs rest).resetDuring (decode cmd din) taken) ∨
      (s.inputs = .send :: rest ∧ s.fv = true ∧
        t = (s.setInputs rest).setEnv { s.env with txLine := s.env.txLine ++ s.frame.toList }) ∨
      (s.inputs = .flush :: rest ∧ t = doFlush (s.setInputs rest)) ∨
      (∃ p, (s.inputs = .read p :: rest ∨ s.inputs = .useResult p :: rest) ∧ t = s.setInputs rest) ∨
      (∃ b, s.inputs = .arrive b :: rest ∧ t = doArrive b (s.setInputs rest))) := by
  unfold step at h
  split at h
  · next hi => cases h; exact .inl ⟨hi, rfl⟩
  · next cmd din rest hi => exact .inr ⟨rest, .inl ⟨cmd, din, hi, afterOp_next h⟩⟩
  · next rest hi => cases h; exact .inr ⟨rest, .inr (.inl ⟨hi, rfl⟩)⟩
  · next cmd din taken rest hi => cases h; exact .inr ⟨rest, .inr (.inr (.inl ⟨cmd, din, taken, hi, rfl⟩))⟩
  · next rest hi =>
    obtain ⟨hf, rfl⟩ := doSend_next h
    exact .inr ⟨rest, .inr (.inr (.inr (.inl ⟨hi, hf, rfl⟩)))⟩
  · next rest hi => cases h; exact .inr ⟨rest, .inr (.inr (.inr (.inr (.inl ⟨hi, rfl⟩))))⟩
  · next p rest hi =>
    obtain ⟨rfl, -⟩ := portAccess_next h
    exact .inr ⟨rest, .inr (.inr (.inr (.inr (.inr (.inl ⟨p, .inl hi, rfl⟩)))))⟩
  · next p rest hi =>
    obtain ⟨rfl, -⟩ := portAccess_next h
    exact .inr ⟨rest, .inr (.inr (.inr (.inr (.inr (.inl ⟨p, .inr hi, rfl⟩)))))⟩
  · next b rest hi => cases h; exact .inr ⟨rest, .inr (.inr (.inr (.inr (.inr (.inr ⟨b, hi, rfl⟩)))))⟩

end Sys2Proof.Machine
end

