-- ==== Sys2Proof/Laws/PerInstr.lean ====
section
/-! SUPPORT. One lemma per operation: the operation code in its encoded command word is the one of R51's map. -/

namespace Sys2Proof.Laws

/-- CMD.op of the encoded operation is its code. -/
def OpField.Statement (i : Instr) : Prop := cmdOp (encode i).1 = i.opCode

theorem OpField.nop : OpField.Statement .nop := cmdOp_mkCmd _ _ _
theorem OpField.clr : OpField.Statement .clr := cmdOp_mkCmd _ _ _
theorem OpField.ldb (w : Word) : OpField.Statement (.ldb w) := cmdOp_mkCmd _ _ _
theorem OpField.enc (n : BitVec 4) (v : Word) : OpField.Statement (.enc n v) := cmdOp_mkCmd _ _ _
theorem OpField.dec (n : BitVec 4) : OpField.Statement (.dec n) := cmdOp_mkCmd _ _ _
theorem OpField.frm (l : BitVec 4) (opc : Byte) : OpField.Statement (.frm l opc) := cmdOp_mkCmd _ _ _
theorem OpField.rack : OpField.Statement .rack := cmdOp_mkCmd _ _ _
theorem OpField.rraw : OpField.Statement .rraw := cmdOp_mkCmd _ _ _
theorem OpField.rsmt : OpField.Statement .rsmt := cmdOp_mkCmd _ _ _
theorem OpField.rtxs : OpField.Statement .rtxs := cmdOp_mkCmd _ _ _
theorem OpField.rfrq : OpField.Statement .rfrq := cmdOp_mkCmd _ _ _
theorem OpField.rmem : OpField.Statement .rmem := cmdOp_mkCmd _ _ _
theorem OpField.rcwm : OpField.Statement .rcwm := cmdOp_mkCmd _ _ _
theorem OpField.ragc : OpField.Statement .ragc := cmdOp_mkCmd _ _ _
theorem OpField.reservedE : OpField.Statement .reservedE := cmdOp_mkCmd _ _ _
theorem OpField.reservedF : OpField.Statement .reservedF := cmdOp_mkCmd _ _ _

end Sys2Proof.Laws
end

