-- ==== Sys2Proof/Tests/Slice0.lean ====
section
/-! SUPPORT. The model's own tests: expected results are from spec/95_test_vectors.md (the vector's id stands before each
test) and from the encodings of spec 30; and one witness for the hypotheses of each statement that has any. -/

namespace Sys2Proof.Tests

open Sys2Proof.Machine

/-! ## Ill-formed operations are refused by the check (R53, R54) -/

theorem test_wf_enc : (Instr.enc 9 1).wellFormed = false ∧ (Instr.enc 8 1).wellFormed = true := by decide
theorem test_wf_dec : (Instr.dec 9).wellFormed = false ∧ (Instr.dec 8).wellFormed = true := by decide
theorem test_wf_frm : (Instr.frm 5 1).wellFormed = false ∧ (Instr.frm 4 1).wellFormed = true := by decide
theorem test_wf_reserved : Instr.reservedE.wellFormed = false ∧ Instr.reservedF.wellFormed = false := by decide

/-! ## Every constructor's decoding, from words written out by R49's fields: opc, n, op -/

theorem test_decode_nop : decode 0b00000000_0000_0000 0 = .nop := by decide
theorem test_decode_clr : decode 0b00000000_0000_0001 0 = .clr := by decide
theorem test_decode_ldb : decode 0b00000000_0000_0010 0x00550000 = .ldb 0x00550000 := by decide
theorem test_decode_enc : decode 0b00000000_0100_0011 885 = .enc 4 885 := by decide
theorem test_decode_dec : decode 0b00000000_1000_0100 0 = .dec 8 := by decide
theorem test_decode_frm : decode 0b10111011_0010_0101 0 = .frm 2 0xBB := by decide
theorem test_decode_rack : decode 0b01011010_0110_0110 0 = .rack := by decide
theorem test_decode_rraw : decode 0b00000000_0000_0111 0 = .rraw := by decide
theorem test_decode_rsmt : decode 0b00000000_0000_1000 0 = .rsmt := by decide
theorem test_decode_rtxs : decode 0b00000000_0000_1001 0 = .rtxs := by decide
theorem test_decode_rfrq : decode 0b00000000_0000_1010 0 = .rfrq := by decide
theorem test_decode_rmem : decode 0b00000000_0000_1011 0 = .rmem := by decide
theorem test_decode_rcwm : decode 0b00000000_0000_1100 0 = .rcwm := by decide
theorem test_decode_ragc : decode 0b00000000_0000_1101 0 = .ragc := by decide
theorem test_decode_reservedE : decode 0b00000000_0000_1110 0 = .reservedE := by decide
theorem test_decode_reservedF : decode 0b00000000_0000_1111 0 = .reservedF := by decide

/-- The words of R60's listing, for the operations with operands. -/
theorem test_encode_operands : encode (.enc 8 7000000) = (0x0083, 0x006ACFC0) ∧ encode (.dec 7) = (0x0074, 0) ∧
    encode (.frm 3 0xFF) = (0xFF35, 0) ∧ encode (.ldb 0xDEADBEEF) = (0x0002, 0xDEADBEEF) := by decide

/-- CMD in bits 15..0, DIN in bits 47..16. -/
theorem test_decodeTableWord : decodeTableWord 16 0xBB25 = some (.frm 2 0xBB) ∧
    decodeTableWord 48 0x0000002B_0083 = some (.enc 8 43) := by decide

/-! ## One operation on a small state -/

/-- A small state: every register 0, nothing on the ports. -/
def base : State where
  buf := #v[0, 0, 0, 0]
  frame := #v[0, 0, 0, 0, 0]
  fv := false
  res := 0
  txf := false
  stb := 0
  cwf := ⟨0, false, false⟩
  adf := ⟨false, false, false, false⟩
  stat := 0
  written := ⟨false, false, false, false, false⟩
  failed := ⟨false, false, false, false, false⟩
  resets := 1
  env := ⟨[], [], 0, []⟩
  inputs := []

/-- `base` with elements for the receive port: bytes in the buffer, then the script. -/
def withRx (bs : List Byte) (xs : List RxElem) : State := base.setEnv ⟨bs, xs, 0, []⟩

/-- The next state, if the outcome is one. -/
def next? (o : Host.Outcome State Fault Refusal) : Option State :=
  match o with
  | .next s => some s
  | .fault _ => none
  | .refused _ => none

/-- FB-1. -/
theorem test_nop_keeps_sticky : (next? (exec .nop (base.setStat 0x09))).map (·.stat) = some 0x08 := by decide
/-- FB-3. -/
theorem test_clr : (next? (exec .clr (base.setBuf #v[0x12, 0x3F, 0xFF, 0xFF]))).map (·.buf) = some #v[0, 0, 0, 0] := by
  decide
/-- FB-6. -/
theorem test_ldb : (next? (exec (.ldb 0xDEADBEEF) base)).map (·.buf) = some #v[0xDE, 0xAD, 0xBE, 0xEF] := by decide
/-- ENC-7, EX-7: TRUNC is set with ERR = OK, and an Illegal ENC keeps it. -/
theorem test_enc_truncates : (next? (exec (.enc 8 0xFFFFFFFF) base)).map (fun t => (t.buf, t.stat)) =
    some (#v[0x94, 0x96, 0x72, 0x95], 0x04) ∧
    (next? (exec (.enc 9 1) (base.setStat 0x04))).map (·.stat) = some 0x0E := by decide
/-- ENC-14. -/
theorem test_enc_odd_keeps_nibble :
    (next? (exec (.enc 7 1234567) (base.setBuf #v[0xFF, 0xFF, 0xFF, 0xFF]))).map (fun t => (t.buf, t.stat)) =
    some (#v[0x12, 0x34, 0x56, 0x7F], 0x00) := by decide
/-- DEC-4. -/
theorem test_dec_folds_nibbles :
    (next? (exec (.dec 8) (base.setBuf #v[0x0A, 0xBC, 0xDE, 0xF0]))).map (fun t => (t.res, t.stat)) =
    some (11234550, 0x00) := by decide
/-- DEC-9. -/
theorem test_dec_odd : (next? (exec (.dec 7) (base.setBuf #v[0x12, 0x34, 0x56, 0x78]))).map (·.res) =
    some 1234567 := by decide
/-- FB-10. -/
theorem test_frm_zero_fills :
    (next? (exec (.frm 2 0xBB) (base.setBuf #v[0xDE, 0xAD, 0xBE, 0xEF]))).map (fun t => (t.frame, t.fv)) =
    some (#v[0xDE, 0xAD, 0x00, 0x00, 0xBB], true) := by decide
/-- FB-14. -/
theorem test_frm_illegal : (next? (exec (.frm 5 1) base)).map (fun t => (t.frame, t.fv, t.stat)) =
    some (base.frame, false, 0x0A) := by decide
/-- EX-6. -/
theorem test_rack_keeps_trunc : (next? (exec .rack ((withRx [0x00] []).setStat 0x04))).map (·.stat) = some 0x04 := by
  decide
/-- RACK-3. -/
theorem test_rack_timeout : (next? (exec .rack (withRx [] [.timeout]))).map (·.stat) = some 0x09 := by decide
/-- RRAW-3. -/
theorem test_rraw : (next? (exec .rraw (withRx [0xFF] []))).map (·.res) = some 0x000000FF := by decide
/-- RSMT-1. -/
theorem test_rsmt : (next? (exec .rsmt (withRx [0xF7] []))).map (·.res) = some 0x07 := by decide
/-- RTXS-1. -/
theorem test_rtxs_sentinel : (next? (exec .rtxs (withRx [Config.txSentinel] []))).map (·.txf) = some false := by
  simp [exec, execRtxs, respond, respondState, rxTake, rx, withRx, State.setEnv, State.setTxf, transmitting, respByte,
    complete, State.setStat, next?]
/-- RTXS-3. -/
theorem test_rtxs_other (h : Config.txSentinel ≠ 0x00) :
    (next? (exec .rtxs (withRx [0x00] []))).map (·.txf) = some true := by
  simp [exec, execRtxs, respond, respondState, rxTake, rx, withRx, State.setEnv, State.setTxf, transmitting, respByte,
    complete, State.setStat, next?]
  exact fun e => h e.symm
/-- RFRQ-1. -/
theorem test_rfrq : (next? (exec .rfrq (withRx [0x14, 0x07, 0x40, 0x00, 0x01] []))).map (fun t => (t.res, t.stb)) =
    some (14074000, 0x01) := by decide
/-- RFRQ-5: two bytes taken and lost. -/
theorem test_rfrq_timeout :
    (next? (exec .rfrq (withRx [0x14] [.byte 0x07, .timeout, .byte 0x22]))).map
      (fun t => (t.res, t.stb, t.stat, t.env.rxScript)) = some (0, 0, 0x09, [.byte 0x22]) := by decide
/-- RMEM-2. -/
theorem test_rmem_timeout : (next? (exec .rmem (withRx [0x01] [.timeout]))).map (fun t => (t.res, t.stat)) =
    some (0, 0x09) := by decide
/-- RMEM-1. -/
theorem test_rmem : (next? (exec .rmem (withRx [0x01, 0x7E] []))).map (fun t => (t.res, t.env.rxBuf)) =
    some (0x01, []) := by decide
/-- RCWM-1, by 90 C2 with break-in set. -/
theorem test_rcwm : (next? (exec .rcwm (withRx [0x35, 0x00] []))).map (fun t => (t.res, t.cwf)) =
    some (0x35, ⟨1, true, true⟩) := by decide
/-- P3: 0x15 reads out as 0x5. -/
theorem test_rcwm_port : (next? (exec .rcwm (withRx [0x15, 0x3C] []))).map (·.portValue .cwf) =
    some (.nibble 0x5) := by decide
/-- RAGC-2. -/
theorem test_ragc : (next? (exec .ragc (withRx [0x04, 0x00] []))).map (fun t => (t.res, t.adf)) =
    some (0x04, ⟨false, true, false, false⟩) := by decide
/-- RAGC-5. -/
theorem test_ragc_undecoded : (next? (exec .ragc (withRx [0xD8, 0x00] []))).map (fun t => (t.res, t.adf)) =
    some (0xD8, ⟨false, false, false, false⟩) := by decide
/-- EX-1. -/
theorem test_reservedE : (next? (exec .reservedE base)).map (·.stat) = some 0x0A := by decide
/-- EX-2: a pending byte is not taken. -/
theorem test_reservedF : (next? (exec .reservedF (withRx [0x5A] []))).map (fun t => (t.stat, t.env.rxBuf)) =
    some (0x0A, [0x5A]) := by decide
/-! ## One step on the ports -/

/-- RST-2, RST-4: STAT and FV are cleared, and the transport's buffer keeps its byte. -/
theorem test_rst : (next? (step { withRx [0x5A] [] with stat := 0x0E, fv := true, inputs := [.rst] })).map
    (fun t => (t.stat, t.fv, t.env.rxBuf)) = some (0x00, false, [0x5A]) := by decide
/-- RST-3: RFRQ has taken 14 07 40 when RST comes. -/
theorem test_rst_during : (next? (step { withRx [0x14, 0x07, 0x40, 0x00] [] with
    inputs := [.rstDuring 0x000A 0 3] })).map (fun t => (t.stat, t.env.rxBuf)) = some (0x00, [0x00]) := by decide
/-- P1 step 3: byte 0 first. -/
theorem test_send : (next? (step { base with frame := #v[0x14, 0x07, 0x40, 0x00, 0x01], fv := true, inputs := [.send] })).map
    (·.env.txLine) = some [0x14, 0x07, 0x40, 0x00, 0x01] := by decide
/-- The fetch word is the very next operation: FRM 4, 0x01 of FB-7. -/
theorem test_withFetchWord : (next? (step (base.withFetchWord 16 0x0145))).map (fun t => (t.frame, t.inputs)) =
    some (#v[0, 0, 0, 0, 0x01], []) := by decide
/-- R103: with nothing to do the block waits. -/
theorem test_idle : (next? (step base)).map (fun t => decide (t = base)) = some true := by decide
/-- R86, R51: every operation that the pairing table names takes as many elements as the command's response has. -/
theorem test_pairing : ∀ c : CatCommand, (pairedOps c).all (fun i => rxCount i == responseBytes c) = true := by
  intro c; cases c <;> rfl
/-- R61, R86: the response operation of every action is one that R86 pairs with its command. -/
theorem test_actions_paired : ∀ a : Action, a.responseOp.all (fun i => i ∈ pairedOps a.command) = true := by
  intro a; cases a <;> rfl
/-- R61, R99, R113: the result of an action is taken from the port its response operation writes, if STAT says OK. -/
theorem test_result_ports : Action.getVfo.resultEvents (some .ok) = [.useResult .res] ∧
    Action.getVfo.resultEvents (some .timeout) = [] ∧
    ([Action.getFrequency, .getMode, .getTransmitState, .getSmeter, .getVfo, .getCwMeter, .getAgcDsp, .getSplit].all
      fun a => a.responseOp.any fun i => a.resultPort.any fun p => portFlag (resultRegs i) p == some true) = true := by
  decide
/-- R115: RFRQ can block for up to 10 000 ms. -/
theorem test_max_block : maxBlockMs .rfrq = 10000 := by decide

/-! ## Witnesses: a state and operands that meet a statement's hypotheses -/

/-- Bytes at the head of the buffer are delivered. -/
theorem delivers_buffer : Delivers [0xFF, 0x00] ⟨[0xFF, 0x00], [], 0, []⟩ ⟨[], [], 0, []⟩ := ⟨_, rfl, _, rfl, rfl⟩

/-- StepRunsDecodedOperation, at the all-zero command word. -/
theorem witness_step_op : ∃ s : State, s.inputs = .op 0x0000 0 :: [] := ⟨{ base with inputs := [.op 0 0] }, rfl⟩
/-- IgnoredFieldsHaveNoEffect, first clause: RACK-1 and RSP-1. -/
theorem witness_ignored : cmdOp 0x0006 = cmdOp 0x5A66 ∧ ¬(cmdOp 0x0006 = 0x3 ∨ cmdOp 0x0006 = 0x4 ∨ cmdOp 0x0006 = 0x5) ∧
    ¬(cmdOp 0x0006 = 0x2 ∨ cmdOp 0x0006 = 0x3) := by decide
/-- IgnoredFieldsHaveNoEffect, second clause, at its last code. -/
theorem witness_ignored_legal : (cmdOp 0xFFFD).toNat ≤ 0xD ∧ cmdOp 0xFFFD ≠ 0x3 ∧ cmdOp 0xFFFD ≠ 0x4 ∧
    cmdOp 0xFFFD ≠ 0x5 := by decide
/-- ReservedWordsRaiseIllegal, each disjunct at its first value (ENC-19, DEC-13, FB-14 and the two codes). -/
theorem witness_reserved : cmdOp 0x000E = 0xE ∧ cmdOp 0x000F = 0xF ∧ (cmdOp 0x0093 = 0x3 ∧ 9 ≤ (cmdN 0x0093).toNat) ∧
    (cmdOp 0x0094 = 0x4 ∧ 9 ≤ (cmdN 0x0094).toNat) ∧ (cmdOp 0x0155 = 0x5 ∧ 5 ≤ (cmdN 0x0155).toNat) := by decide
/-- The code hypotheses of the statements about one operation each, with every ignored field set. -/
theorem witness_codes : cmdOp 0xFFF0 = 0x0 ∧ cmdOp 0xFFF1 = 0x1 ∧ cmdOp 0xFFF2 = 0x2 ∧ cmdOp 0xFF83 = 0x3 ∧
    cmdOp 0xFF84 = 0x4 ∧ cmdOp 0xFF45 = 0x5 ∧ cmdOp 0xFFF6 = 0x6 ∧ cmdOp 0xFFF7 = 0x7 ∧ cmdOp 0xFFF8 = 0x8 ∧
    cmdOp 0xFFF9 = 0x9 ∧ cmdOp 0xFFFA = 0xA ∧ cmdOp 0xFFFB = 0xB ∧ cmdOp 0xFFFC = 0xC ∧ cmdOp 0xFFFD = 0xD ∧
    cmdOp 0xFFFE = 0xE ∧ cmdOp 0xFFFF = 0xF := by decide
/-- FrmBuildsFrame, both clauses where they meet; and FrameShapeAndStability, first clause with L = 0. -/
theorem witness_frm : (4 : BitVec 4).toNat ≤ 4 ∧ 4 < (5 : BitVec 4).toNat ∧
    ((next? (exec (.frm 0 0x81) base)).map (fun t => decide (statErr t.stat ≠ 2))) = some true := by decide
/-- FrameShapeAndStability, second clause: an operation that is no FRM. -/
theorem witness_not_frm : (∃ t, exec .clr base = .next t) ∧ ∀ l opc, Instr.clr ≠ .frm l opc :=
  ⟨⟨_, rfl⟩, fun _ _ h => Instr.noConfusion h⟩
/-- EncWritesDecimalDigits and DecSumsWeightedLanes, both clauses where they meet. -/
theorem witness_digits : (8 : BitVec 4).toNat ≤ 8 ∧ 8 < (9 : BitVec 4).toNat := by decide
/-- BcdRoundTrip's two clauses and EncodeTruncatesModulo, where they meet. -/
theorem witness_round_trip : (99999999 : Word).toNat < 10 ^ 8 ∧ 10 ^ 8 ≤ (100000000 : Word).toNat := by decide
/-- DecodeReadsOnlyItsField: two buffers that agree on 3 lanes and differ after them (DEC-5). -/
theorem witness_lanes : (∀ k < 3, lane #v[0x12, 0x3F, 0, 0] k = lane #v[0x12, 0x30, 0x55, 0] k) := by decide
/-- EncThenFrmSendsWhatBufHeld: an odd field whose last byte is in the frame, with a stale byte after it. -/
theorem witness_enc_frm : ∃ t u, exec (.enc 3 123) base = .next t ∧ exec (.frm 3 0x42) t = .next u ∧
    (3 : BitVec 4).toNat % 2 = 1 ∧ (3 : BitVec 4).toNat / 2 < (3 : BitVec 4).toNat ∧
    ((3 : BitVec 4).toNat + 1) / 2 < (3 : BitVec 4).toNat := ⟨_, _, rfl, rfl, by decide⟩
/-- RACK, RRAW, RSMT, RTXS: one byte arrives. -/
theorem witness_one_byte : Delivers [0xFF] (withRx [0xFF] []).env ⟨[], [], 0, []⟩ := ⟨_, rfl, rfl⟩
/-- RACK, RRAW, RSMT, RTXS, and TimeoutWritesOnlyStat: no byte arrives. -/
theorem witness_timeout_first : TimesOutAfter [] (withRx [] [.timeout]).env ⟨[], [], 0, []⟩ := ⟨_, rfl, rfl⟩
/-- RFRQ: five bytes arrive. -/
theorem witness_five_bytes : Delivers [0x14, 0x07, 0x40, 0x00, 0x01]
    (withRx [0x14, 0x07, 0x40, 0x00, 0x01] []).env ⟨[], [], 0, []⟩ :=
  ⟨_, rfl, _, rfl, _, rfl, _, rfl, _, rfl, rfl⟩
/-- RFRQ: four bytes arrive and then none (RFRQ-4). -/
theorem witness_timeout_fifth : TimesOutAfter [0x07, 0x00, 0x00, 0x00]
    (withRx [0x07, 0x00, 0x00, 0x00] [.timeout]).env ⟨[], [], 0, []⟩ ∧
    ([0x07, 0x00, 0x00, 0x00] : List Byte).length < 5 :=
  ⟨⟨_, ⟨_, rfl, _, rfl, _, rfl, _, rfl, rfl⟩, rfl⟩, by decide⟩
/-- RMEM, RCWM, RAGC, OperationTakesExactlyItsElements, VfoAndSplitFlagsComeFromTheValueByte: two bytes arrive. -/
theorem witness_two_bytes : Delivers [0xFF, 0x00] (withRx [0xFF, 0x00] []).env ⟨[], [], 0, []⟩ ∧
    ([0xFF, 0x00] : List Byte).length = rxCount .rmem := ⟨delivers_buffer, rfl⟩
/-- RMEM, RCWM, RAGC, and TimeoutWritesOnlyStat: one byte arrives and then none (RMEM-2). -/
theorem witness_timeout_second : TimesOutAfter [0x01] (withRx [0x01] [.timeout]).env ⟨[], [], 0, []⟩ ∧
    ([0x01] : List Byte).length < rxCount .rmem := ⟨⟨_, ⟨_, rfl, rfl⟩, rfl⟩, by decide⟩
/-- BufferedBytesComeInOrder, both clauses. -/
theorem witness_buffered : (withRx [0x01, 0x7E] []).env.rxBuf = [0x01] ++ [0x7E] ∧
    ∃ s : State, s.inputs = .arrive 0x5A :: [] := ⟨rfl, { base with inputs := [.arrive 0x5A] }, rfl⟩
/-- ResponseIgnoresBufAndFrame. -/
theorem witness_response : rxCount .rcwm ≠ 0 := by decide
/-- TruncWrittenOnlyByEnc, both clauses. -/
theorem witness_trunc : (8 : BitVec 4).toNat ≤ 8 ∧ ∀ n v, Instr.rack ≠ .enc n v :=
  ⟨by decide, fun _ _ h => Instr.noConfusion h⟩
/-- ExceptionsArePrecise: an Illegal and a Timeout. -/
theorem witness_failures : (∃ t, exec .reservedE base = .next t ∧ statErr t.stat ≠ 0 ∧ statErr t.stat = 2) ∧
    (∃ t, exec .rack (withRx [] [.timeout]) = .next t ∧ statErr t.stat ≠ 0) :=
  ⟨⟨_, rfl, by decide⟩, ⟨_, rfl, by decide⟩⟩
/-- RegistersWrittenOnlyByTheirOperations. -/
theorem witness_exec : ∃ t, exec .ragc (withRx [0x27, 0x00] []) = .next t := ⟨_, rfl⟩
/-- StatStaysSound, LineGrowsByWholeFrames, FrameStableAcrossSteps: a step from a sound state, with FV = 1. -/
theorem witness_step : ∃ s t : State, StatSound s.stat ∧ s.fv = true ∧ step s = .next t :=
  ⟨{ base with fv := true, inputs := [.send] }, _, by unfold StatSound; decide, rfl, rfl⟩
/-- ClearStickyMeansNoFailure: two steps without a failure. -/
theorem witness_run : ∃ s u t : State, StatSound s.stat ∧ Reaches 1 s u ∧ Reaches 1 u t ∧ t.resets = s.resets ∧
    NoFailure t :=
  ⟨{ base with inputs := [.op 0x0083 5, .op 0x0084 0] }, _, _, by unfold StatSound; decide, ⟨_, rfl, rfl⟩,
    ⟨_, rfl, rfl⟩, rfl, by unfold NoFailure; decide⟩
/-- RstSetsRegistersNotTransport, with a result register written. -/
theorem witness_rst : ∃ s : State, s.inputs = .rst :: [] ∧ s.written.res = true :=
  ⟨{ base.setRes 7 with inputs := [.rst] }, rfl, rfl⟩
/-- RstDuringOperationAbandonsIt: RST-3. -/
theorem witness_rst_during : ∃ (s t : State) (e : Env), s.inputs = .rstDuring 0x000A 0 ([0x14, 0x07, 0x40] : List Byte).length :: [] ∧
    ([0x14, 0x07, 0x40] : List Byte).length < rxCount (decode 0x000A 0) ∧ Delivers [0x14, 0x07, 0x40] s.env e ∧
    step { s with inputs := .rst :: [] } = .next t :=
  ⟨{ withRx [0x14, 0x07, 0x40] [] with inputs := [.rstDuring 0x000A 0 3] }, _, _, rfl, by decide,
    ⟨_, rfl, _, rfl, _, rfl, rfl⟩, rfl⟩
/-- SendTransmitsTheFrame, both clauses. -/
theorem witness_send : (∃ s : State, s.inputs = .send :: [] ∧ s.fv = true) ∧
    (∃ s : State, s.inputs = .send :: [] ∧ s.fv = false) :=
  ⟨⟨{ base with fv := true, inputs := [.send] }, rfl, rfl⟩, ⟨{ base with inputs := [.send] }, rfl, rfl⟩⟩
/-- FlushDiscardsBufferedInput. -/
theorem witness_flush : ∃ s : State, s.inputs = .flush :: [] ∧ s.env.rxBuf ≠ [] :=
  ⟨{ withRx [0x5A] [] with inputs := [.flush] }, rfl, by decide⟩
/-- PortReadsAndTheirFaults: a read of each result register before it is written. -/
theorem witness_read_unwritten : ∀ p ∈ [OutPort.res, .txf, .stb, .cwf, .adf],
    ({ base with inputs := [.read p] } : State).inputs = .read p :: [] ∧ base.written = ⟨false, false, false, false, false⟩ :=
  fun _ _ => ⟨rfl, rfl⟩
/-- PortReadsAndTheirFaults: the reserved ERR on the port STAT, and a read that does not stop. -/
theorem witness_read : ∃ s u : State, s.inputs = .read .stat :: [] ∧ statErr s.stat = 3 ∧ u.inputs = .read .stat :: [] ∧
    statErr u.stat ≠ 3 :=
  ⟨{ base with stat := 0x03, inputs := [.read .stat] }, { base with inputs := [.read .stat] }, rfl, by decide, rfl,
    by decide⟩
/-- PortReadsAndTheirFaults: a read of a result register that is written, which does not stop. -/
theorem witness_read_written : ∃ s : State, s.inputs = .read .res :: [] ∧ s.written.res = true ∧
    statErr s.stat ≠ 3 ∧ ∃ t, step s = .next t :=
  ⟨{ base.setRes 7 with inputs := [.read .res] }, rfl, rfl, by decide, _, rfl⟩
/-- FailedResultsMustNotBeUsed: RMEM with a Timeout, RES not written; the same with RES written; and RMEM with its bytes. -/
theorem witness_use : ∃ s1 s2 s3 u1 u2 u3 : State,
    (s1.inputs = .op 0x000B 0 :: .useResult .res :: [] ∧ step s1 = .next u1 ∧ statErr u1.stat ≠ 0 ∧
      portFlag s1.written .res = some false) ∧
    (s2.inputs = .op 0x000B 0 :: .useResult .res :: [] ∧ step s2 = .next u2 ∧ statErr u2.stat ≠ 0 ∧
      portFlag s2.written .res = some true) ∧
    (s3.inputs = .op 0x000B 0 :: .useResult .res :: [] ∧ step s3 = .next u3 ∧ statErr u3.stat = 0) :=
  ⟨{ withRx [0x01] [.timeout] with inputs := [.op 0x000B 0, .useResult .res] },
    { (withRx [0x01] [.timeout]).setRes 7 with inputs := [.op 0x000B 0, .useResult .res] },
    { withRx [0x01, 0x7E] [] with inputs := [.op 0x000B 0, .useResult .res] }, _, _, _,
    ⟨rfl, rfl, by decide, rfl⟩, ⟨rfl, rfl, by decide, rfl⟩, ⟨rfl, rfl, by decide⟩⟩
/-- FailedResultsMustNotBeUsed: the decoded operation and its port, and a port whose register it does not write. -/
theorem witness_use_port : decode 0x000B 0 = .rmem ∧ portFlag (resultRegs .rmem) .res = some true ∧
    portFlag (resultRegs .rmem) .txf ≠ some true := by decide
/-- OutcomeIsReadAfterEachOperation: a reserved word, a Timeout and a byte, each followed by the read of STAT. -/
theorem witness_outcome :
    (∃ s : State, s.inputs = .op 0x000E 0 :: .read .stat :: [] ∧ (decode 0x000E 0).wellFormed = false) ∧
    (∃ (s : State) (e : Env), s.inputs = .op 0x0006 0 :: .read .stat :: [] ∧
      ([] : List Byte).length < rxCount (decode 0x0006 0) ∧ TimesOutAfter [] s.env e) ∧
    (∃ (s : State) (e : Env), s.inputs = .op 0x0006 0 :: .read .stat :: [] ∧ (decode 0x0006 0).wellFormed = true ∧
      ([0xFF] : List Byte).length = rxCount (decode 0x0006 0) ∧ Delivers [0xFF] s.env e) :=
  ⟨⟨{ base with inputs := [.op 0x000E 0, .read .stat] }, rfl, by decide⟩,
    ⟨{ withRx [] [.timeout] with inputs := [.op 0x0006 0, .read .stat] }, _, rfl, by decide, witness_timeout_first⟩,
    ⟨{ withRx [0xFF] [] with inputs := [.op 0x0006 0, .read .stat] }, _, rfl, by decide, by decide, witness_one_byte⟩⟩
/-- ActionsReportTypedFailures: a Timeout at the second byte, its bytes, a result port with and without a field, none, and
the two failure codes. -/
theorem witness_report : .rmem ∈ Action.getVfo.responseOp ∧ ([0x01] : List Byte).length < rxCount .rmem ∧
    TimesOutAfter [0x01] (withRx [0x01] [.timeout]).env ⟨[], [], 0, []⟩ ∧
    ([0xFF, 0x00] : List Byte).length = rxCount .rmem ∧
    Delivers [0xFF, 0x00] (withRx [0xFF, 0x00] []).env ⟨[], [], 0, []⟩ ∧
    Action.getVfo.resultPort = some .res ∧ Action.getVfo.resultField = some Config.vfoField ∧
    Action.getCwMeter.resultPort = some .cwf ∧ Action.getCwMeter.resultField = none ∧
    .rack ∈ (Action.setMode 0x02).responseOp ∧ (Action.setMode 0x02).resultPort = none ∧
    statErr 0x09 = 1 ∧ statErr 0x0A = 2 :=
  ⟨.head _, witness_timeout_second.2, witness_timeout_second.1, rfl, delivers_buffer, rfl, rfl, rfl, rfl, .head _, rfl,
    by decide, by decide⟩
/-- ActionTransactionsNeverFault: a whole transaction as the inputs. -/
theorem witness_transaction : ∃ s : State, s.inputs = Action.getVfo.events ++ [] :=
  ⟨{ base with inputs := Action.getVfo.events ++ [] }, rfl⟩

end Sys2Proof.Tests
end

section
/-! The rules for the state family (spec 10): the next state of each operation and of each event, said once; then the
statements about STAT, the registers, the ports and the transport. -/

namespace Sys2Proof.Machine

/-! ## The operation selected by a command word -/

/-- The decoder keeps the code of the command word (R51). -/
theorem opCode_decode (cmd : CmdWord) (din : Word) : (decode cmd din).opCode = cmdOp cmd := by
  apply BitVec.eq_of_toNat_eq
  have hlt := (cmdOp cmd).isLt
  unfold decode
  split
  case h_16 =>
    have h15 : (cmdOp cmd).toNat = 15 := by grind
    exact h15.symm
  all_goals next h => exact h.symm

/-! ## What an operation writes -/

/-- The register writes of an operation that ends OK with the response bytes `bs`, all but STAT.ERR. `exec_next` ties it
to `exec`. -/
def opWrites (i : Instr) (bs : List Byte) (s : State) : State :=
  match i with
  | .clr => s.setBuf #v[0, 0, 0, 0]
  | .ldb w => s.setBuf (dinBytes w)
  | .enc n v => (s.setBuf (bcdEncode s.buf v n.toNat)).setStat (setTrunc (truncates v n.toNat) s.stat)
  | .dec n => s.setRes (bcdDecode s.buf n.toNat)
  | .frm l opc => s.setFrame (buildFrame s.buf l.toNat opc)
  | .rraw => s.setRes (zext32 (respByte bs 0))
  | .rsmt => s.setRes (zext32 (smeterBits (respByte bs 0)))
  | .rtxs => s.setTxf (transmitting (respByte bs 0) Config.txSentinel)
  | .rfrq => (s.setRes (bcdDecode (freqBytes bs) Config.nFreq)).setStb (respByte bs 4)
  | .rmem => s.setRes (zext32 (respByte bs 0))
  | .rcwm => (s.setRes (zext32 (respByte bs 0))).setCwf (cwfOf (respByte bs 0))
  | .ragc => (s.setRes (zext32 (respByte bs 0))).setAdf (adfOf (respByte bs 0))
  | .nop | .rack | .reservedE | .reservedF => s

/-- `t` is what operation `i` leaves of `s`: its elements are taken, then its writes and OK, or an exception alone. -/
def WritesOrRaises (i : Instr) (s t : State) : Prop :=
  (∃ bs, t = complete (opWrites i bs (s.setEnv (rxTake (rxCount i) s.env).2))) ∨
  ∃ x, t = raise x (s.setEnv (rxTake (rxCount i) s.env).2)

theorem respondState_writesOrRaises {i : Instr} {f : List Byte → State → State} (s : State)
    (hf : f = opWrites i) : WritesOrRaises i s (respondState (rxCount i) f s) := by
  subst hf
  rcases respondState_cases (rxCount i) (opWrites i) s with ⟨bs, e, -, ht, h⟩ | ⟨e, ht, h⟩
  · exact .inl ⟨bs, by rw [h, ht]⟩
  · exact .inr ⟨.timeout, by rw [h, ht]⟩

/-- An operation without response elements that checks its operand against a limit (R54, R92). -/
theorem guarded_writesOrRaises {i : Instr} {s : State} {limit n : Nat} (hk : rxCount i = 0) :
    WritesOrRaises i s (if limit < n then raise .illegal s else complete (opWrites i [] s)) := by
  unfold WritesOrRaises
  rw [hk, rxTake_zero]
  split
  · exact .inr ⟨.illegal, rfl⟩
  · exact .inl ⟨[], rfl⟩

/-- Everything an operation can do to the registers. -/
theorem exec_next {i : Instr} {s t : State} (h : exec i s = .next t) : WritesOrRaises i s t := by
  cases i with
  | nop | clr | ldb => cases h; exact .inl ⟨[], rfl⟩
  | enc | dec | frm => cases h; exact guarded_writesOrRaises rfl
  | reservedE | reservedF => cases h; exact .inr ⟨.illegal, rfl⟩
  | rack | rraw | rsmt | rtxs | rfrq | rmem | rcwm | ragc =>
    cases h; exact respondState_writesOrRaises s rfl

/-- The frame rule: a part `g` of the state that is neither STAT nor the environment changes only if the operation's
writes change it. -/
theorem exec_keeps_or {α : Type} {P : Prop} {i : Instr} {s t : State} (g : State → α)
    (hstat : ∀ b u, g (State.setStat b u) = g u) (henv : ∀ e u, g (State.setEnv e u) = g u)
    (hw : ∀ bs u, g (opWrites i bs u) = g u ∨ P) (h : exec i s = .next t) : g t = g s ∨ P := by
  rcases exec_next h with ⟨bs, rfl⟩ | ⟨x, rfl⟩
  · exact (hw bs _).imp_left fun hg => (hstat _ _).trans (hg.trans (henv _ _))
  · exact .inl ((hstat _ _).trans (henv _ _))

section opWrites

variable (i : Instr) (bs : List Byte) (s : State)

theorem opWrites_buf :
    (opWrites i bs s).buf = s.buf ∨ i = .clr ∨ (∃ w, i = .ldb w) ∨ ∃ n v, i = .enc n v := by
  cases i with
  | clr => exact .inr (.inl rfl)
  | ldb w => exact .inr (.inr (.inl ⟨w, rfl⟩))
  | enc n v => exact .inr (.inr (.inr ⟨n, v, rfl⟩))
  | _ => exact .inl rfl

theorem opWrites_frame_fv :
    ((opWrites i bs s).frame, (opWrites i bs s).fv) = (s.frame, s.fv) ∨ ∃ l opc, i = .frm l opc := by
  cases i with
  | frm l opc => exact .inr ⟨l, opc, rfl⟩
  | _ => exact .inl rfl

theorem opWrites_res :
    (opWrites i bs s).res = s.res ∨ (∃ n, i = .dec n) ∨ i = .rraw ∨ i = .rsmt ∨ i = .rfrq ∨ i = .rmem ∨
      i = .rcwm ∨ i = .ragc := by
  cases i with
  | dec n => exact .inr (.inl ⟨n, rfl⟩)
  | rraw | rsmt | rfrq | rmem | rcwm | ragc => simp
  | _ => exact .inl rfl

theorem opWrites_txf : (opWrites i bs s).txf = s.txf ∨ i = .rtxs := by
  cases i with
  | rtxs => exact .inr rfl
  | _ => exact .inl rfl

theorem opWrites_stb : (opWrites i bs s).stb = s.stb ∨ i = .rfrq := by
  cases i with
  | rfrq => exact .inr rfl
  | _ => exact .inl rfl

theorem opWrites_cwf : (opWrites i bs s).cwf = s.cwf ∨ i = .rcwm := by
  cases i with
  | rcwm => exact .inr rfl
  | _ => exact .inl rfl

theorem opWrites_adf : (opWrites i bs s).adf = s.adf ∨ i = .ragc := by
  cases i with
  | ragc => exact .inr rfl
  | _ => exact .inl rfl

@[simp] theorem opWrites_env : (opWrites i bs s).env = s.env := by cases i <;> rfl

end opWrites

/-- FRAME and FV are FRM's (R22, R23). -/
theorem exec_frame_fv {i : Instr} {s t : State} (h : exec i s = .next t) :
    (t.frame = s.frame ∧ t.fv = s.fv) ∨ ∃ l opc, i = .frm l opc :=
  (exec_keeps_or (fun u => (u.frame, u.fv)) (fun _ _ => rfl) (fun _ _ => rfl) (opWrites_frame_fv i) h).imp_left
    Prod.mk.inj

/-- An operation does nothing to the environment but take its elements (R77). -/
theorem exec_env {i : Instr} {s t : State} (h : exec i s = .next t) : t.env = (rxTake (rxCount i) s.env).2 := by
  rcases exec_next h with ⟨bs, rfl⟩ | ⟨x, rfl⟩
  · simp [complete_spec]
  · rfl

/-- The operations that take response elements are the eight of R51's last column. -/
theorem rxCount_eq_zero_or (i : Instr) :
    rxCount i = 0 ∨ i = .rack ∨ i = .rraw ∨ i = .rsmt ∨ i = .rtxs ∨ i = .rfrq ∨ i = .rmem ∨ i = .rcwm ∨ i = .ragc := by
  cases i with
  | rack | rraw | rsmt | rtxs | rfrq | rmem | rcwm | ragc => simp
  | _ => exact .inl rfl

/-- No operation transmits, resets, or takes an input after its own. -/
theorem exec_txLine_resets_inputs {i : Instr} {s t : State} (h : exec i s = .next t) :
    t.env.txLine = s.env.txLine ∧ t.resets = s.resets ∧ t.inputs = s.inputs := by
  obtain ⟨t', h', hc⟩ := exec_ends i s
  obtain rfl : t = t' := by simpa [h] using h'
  have hline : t.env.txLine = s.env.txLine := by rw [exec_env h, rxTake_txLine]
  rcases hc with ⟨-, u, rfl, hin, hres, -, -, -⟩ | ⟨-, rfl⟩ | ⟨-, e, -, rfl⟩
  · exact ⟨hline, hres, hin⟩
  · exact ⟨hline, rfl, rfl⟩
  · exact ⟨hline, rfl, rfl⟩

/-! ## A sound STAT -/

/-- STAT as reset leaves it is sound (R35). -/
theorem statSound_zero : StatSound 0x00 := by unfold StatSound; decide

/-- Writing OK keeps STAT sound: only the unused bits must be 0 before. -/
theorem StatSound.setErr_ok {b : Byte} (h : StatSound b) : StatSound (setErr .ok b) :=
  ⟨(statRest_setErr _ b).trans h.1, by simp, fun hne => absurd (statErr_setErr_ok b) hne⟩

/-- An exception leaves STAT sound: STICKY goes up with ERR (R93). -/
theorem StatSound.setSticky_setErr {b : Byte} (h : StatSound b) (x : Exc) :
    StatSound (setSticky (setErr x.err b)) :=
  ⟨(statRest_setSticky _).trans ((statRest_setErr _ b).trans h.1), by cases x <;> simp,
    fun _ => statSticky_setSticky _⟩

/-- TRUNC has no part in soundness. -/
theorem StatSound.setTrunc {b : Byte} (h : StatSound b) (t : Bool) : StatSound (setTrunc t b) := by
  obtain ⟨hrest, herr, hsticky⟩ := h
  exact ⟨(statRest_setTrunc t b).trans hrest, by simpa using herr, by simpa using hsticky⟩

/-- Every operation keeps STAT sound. -/
theorem exec_statSound {i : Instr} {s t : State} (h : exec i s = .next t) (hs : StatSound s.stat) :
    StatSound t.stat := by
  obtain ⟨t', h', hc⟩ := exec_ends i s
  obtain rfl : t = t' := by simpa [h] using h'
  rcases hc with ⟨-, u, rfl, -, -, -, -, hu⟩ | ⟨-, rfl⟩ | ⟨-, e, -, rfl⟩
  · have husound : StatSound u.stat := by
      rcases hu with hu | ⟨n, v, -, hu⟩
      · rwa [hu]
      · rw [hu]; exact hs.setTrunc _
    exact husound.setErr_ok
  · exact hs.setSticky_setErr .illegal
  · exact hs.setSticky_setErr .timeout

/-! ## One step, event by event -/

section step

variable {s : State} {rest : List Event}

theorem step_op {cmd : CmdWord} {din : Word} (h : s.inputs = .op cmd din :: rest) :
    step s = afterOp (decode cmd din) (exec (decode cmd din) (s.setInputs rest)) := by
  simp [step, h]

theorem step_rst (h : s.inputs = .rst :: rest) : step s = .next (s.setInputs rest).resetRegs := by
  simp [step, h]

theorem step_send (h : s.inputs = .send :: rest) : step s = doSend (s.setInputs rest) := by
  simp [step, h]

theorem step_flush (h : s.inputs = .flush :: rest) : step s = .next (doFlush (s.setInputs rest)) := by
  simp [step, h]

theorem step_arrive {b : Byte} (h : s.inputs = .arrive b :: rest) :
    step s = .next (doArrive b (s.setInputs rest)) := by
  simp [step, h]

end step

/-- The three kinds of step: an operation, a reset, or an event that leaves every register as it was. -/
theorem step_kinds {s t : State} (h : step s = .next t) :
    (∃ cmd din rest u, s.inputs = .op cmd din :: rest ∧ exec (decode cmd din) (s.setInputs rest) = .next u ∧
      t = u.noteOutcome (decode cmd din)) ∨
    (∃ e l, t = ((s.setInputs l).setEnv e).resetRegs) ∨ ∃ e l, t = (s.setInputs l).setEnv e := by
  rcases step_next h with ⟨-, rfl⟩ | ⟨rest, ⟨cmd, din, hin, u, hu, rfl⟩ | ⟨-, rfl⟩ | ⟨cmd, din, taken, -, rfl⟩ |
    ⟨-, -, rfl⟩ | ⟨-, rfl⟩ | ⟨p, -, rfl⟩ | ⟨b, -, rfl⟩⟩
  case inr.inl => exact .inl ⟨cmd, din, rest, u, hin, hu, rfl⟩
  case inr.inr.inl => exact .inr (.inl ⟨s.env, rest, rfl⟩)
  case inr.inr.inr.inl => exact .inr (.inl ⟨_, rest, rfl⟩)
  case inl => exact .inr (.inr ⟨t.env, t.inputs, rfl⟩)
  all_goals exact .inr (.inr ⟨_, rest, rfl⟩)

theorem doSend_of_fv {s : State} (h : s.fv = true) :
    doSend s = .next (s.setEnv { s.env with txLine := s.env.txLine ++ s.frame.toList }) := by
  simp [doSend, h]

theorem doSend_of_not_fv {s : State} (h : s.fv = false) : doSend s = .fault .sendWithoutFrame := by
  simp [doSend, h]

/-- A frame is its five bytes, byte 0 first (R22). -/
theorem frame_toList (f : Frame) :
    f.toList = [byteAt f 0, byteAt f 1, byteAt f 2, byteAt f 3, byteAt f 4] := by
  apply List.ext_getElem (by simp)
  intro k hk _
  have hk5 : k < 5 := by simpa using hk
  obtain rfl | rfl | rfl | rfl | rfl : k = 0 ∨ k = 1 ∨ k = 2 ∨ k = 3 ∨ k = 4 := by omega
  all_goals simp [byteAt]

/-- The bytes at the head of the transport's buffer are delivered in order, and the rest stays (R34, R45). -/
theorem delivers_of_rxBuf {e : Env} {bs rest : List Byte} (h : e.rxBuf = bs ++ rest) :
    Delivers bs e { e with rxBuf := rest } := by
  induction bs generalizing e with
  | nil => cases e; cases h; rfl
  | cons b bs ih => exact ⟨{ e with rxBuf := bs ++ rest }, rx_of_rxBuf h, ih rfl⟩

/-! ## The ports as numbers -/

theorem cwfPort_toNat (c : Cwf) : (cwfPort c).toNat = c.mtr.toNat + 4 * c.key.toNat + 8 * c.bk.toNat := by
  obtain ⟨mtr, key, bk⟩ := c
  revert mtr key bk
  decide

theorem adfPort_toNat (a : Adf) :
    (adfPort a).toNat = a.nf.toNat + 2 * a.nr.toNat + 4 * a.dsp.toNat + 8 * a.agc.toNat := by
  obtain ⟨agc, dsp, nr, nf⟩ := a
  revert agc dsp nr nf
  decide

theorem statPort_toNat (b : Byte) :
    (statPort b).toNat = (statErr b).toNat + 4 * (statTrunc b).toNat + 8 * (statSticky b).toNat := by
  revert b
  decide

/-! ## The statements -/

/-- Settles O37: an operation keeps STAT sound, a reset clears it, no other event writes it. -/
theorem statStaysSound : Obligations.StatStaysSound := by
  intro s t hs h
  rcases step_kinds h with ⟨cmd, din, rest, u, -, hu, rfl⟩ | ⟨e, l, rfl⟩ | ⟨e, l, rfl⟩
  · have hsu : StatSound u.stat := exec_statSound (s := s.setInputs rest) hu hs
    exact hsu
  · exact statSound_zero
  · exact hs

/-- Settles O31: the buffer's head by induction on the bytes delivered; an arrival appends to the buffer. -/
theorem bufferedBytesComeInOrder : Obligations.BufferedBytesComeInOrder := by
  refine ⟨fun e bs rest h => delivers_of_rxBuf h, fun s b rest h => ?_⟩
  refine ⟨_, step_arrive h, ?_, rfl⟩
  exact delivers_of_rxBuf (e := (doArrive b (s.setInputs rest)).env) (rest := []) (List.append_nil _).symm

/-- Settles O36: the frame rule for each register, and the elements taken for the environment. -/
theorem registersWrittenOnlyByTheirOperations : Obligations.RegistersWrittenOnlyByTheirOperations := by
  intro i s t h
  have henv : t.env = s.env ∨ i = .rack ∨ i = .rraw ∨ i = .rsmt ∨ i = .rtxs ∨ i = .rfrq ∨ i = .rmem ∨ i = .rcwm ∨
      i = .ragc :=
    (rxCount_eq_zero_or i).imp_left fun hk => by rw [exec_env h, hk, rxTake_zero]
  exact ⟨exec_keeps_or State.buf (fun _ _ => rfl) (fun _ _ => rfl) (opWrites_buf i) h,
    exec_frame_fv h,
    exec_keeps_or State.res (fun _ _ => rfl) (fun _ _ => rfl) (opWrites_res i) h,
    exec_keeps_or State.txf (fun _ _ => rfl) (fun _ _ => rfl) (opWrites_txf i) h,
    exec_keeps_or State.stb (fun _ _ => rfl) (fun _ _ => rfl) (opWrites_stb i) h,
    exec_keeps_or State.cwf (fun _ _ => rfl) (fun _ _ => rfl) (opWrites_cwf i) h,
    exec_keeps_or State.adf (fun _ _ => rfl) (fun _ _ => rfl) (opWrites_adf i) h,
    henv, exec_txLine_resets_inputs h⟩

/-- Settles O42: by the value of FV, with the frame written out as its five bytes. -/
theorem sendTransmitsTheFrame : Obligations.SendTransmitsTheFrame := by
  refine ⟨fun s rest h hfv => ?_, fun s rest h hfv => ?_⟩
  · rw [← frame_toList, step_send h]
    exact doSend_of_fv hfv
  · rw [step_send h]
    exact doSend_of_not_fv hfv

/-- Settles O44: of the steps that are no reset only operations write registers, and of these only FRM writes FRAME; its
code is 5. -/
theorem frameStableAcrossSteps : Obligations.FrameStableAcrossSteps := by
  intro s t h
  rcases step_kinds h with ⟨cmd, din, rest, u, hin, hu, rfl⟩ | ⟨e, l, rfl⟩ | ⟨e, l, rfl⟩
  · rcases exec_frame_fv hu with ⟨hframe, -⟩ | ⟨l, opc, hfrm⟩
    · exact .inl hframe
    · have hcode : cmdOp cmd = 0x5 := by rw [← opCode_decode cmd din, hfrm]; rfl
      exact .inr (.inl ⟨cmd, din, rest, hin, hcode⟩)
  · exact .inr (.inr rfl)
  · exact .inl rfl

/-- Settles O4: the operation ends in a next state, and only `noteOutcome` stands between it and the step. -/
theorem stepRunsDecodedOperation : Obligations.StepRunsDecodedOperation := by
  intro s cmd din rest h
  obtain ⟨t, ht, -⟩ := exec_ends (decode cmd din) (s.setInputs rest)
  refine ⟨t, ht, ?_⟩
  have hfailed : t.failed = (s.setInputs rest).failed := exec_failed ht
  rw [step_op h, ht, ← State.setInputs_failed rest s, ← hfailed]
  rfl

/-- Settles O38. -/
theorem resetStatusAndFrameValid : Obligations.ResetStatusAndFrameValid :=
  ⟨rfl, rfl, statSound_zero, rfl, rfl⟩

/-- Settles O40: the step is `resetRegs`, which has no part in the environment or the inputs. -/
theorem rstSetsRegistersNotTransport : Obligations.RstSetsRegistersNotTransport :=
  fun _ _ h => ⟨_, step_rst h, rfl, rfl, rfl, rfl, rfl, rfl⟩

/-- Settles O45. -/
theorem flushDiscardsBufferedInput : Obligations.FlushDiscardsBufferedInput :=
  fun _ _ h => step_flush h

/-- Settles O48: the fields of CWF, ADF and STAT as numbers. -/
theorem portLayouts : Obligations.PortLayouts :=
  fun s => ⟨rfl, rfl, rfl, rfl, rfl, ⟨_, rfl, cwfPort_toNat s.cwf⟩, ⟨_, rfl, adfPort_toNat s.adf⟩,
    ⟨_, rfl, statPort_toNat s.stat⟩⟩

end Sys2Proof.Machine
end

section
/-! The rules for the memory family (spec 20): what reaches the line to the radio, and what a port read does. -/

namespace Sys2Proof.Machine

/-! ## The line to the radio -/

/-- An operation abandoned by RST has transmitted nothing (R104). -/
@[simp] theorem State.resetDuring_txLine (i : Instr) (taken : Nat) (s : State) :
    (s.resetDuring i taken).env.txLine = s.env.txLine :=
  rxTake_txLine _ _

/-! ## A port read -/

/-- The unwritten result registers, port by port (R105 step 5): the other ports have no flag. -/
theorem portFlag_eq_some_false {r : ResultRegs} {p : OutPort} :
    portFlag r p = some false ↔
      (p = .res ∧ r.res = false) ∨ (p = .txf ∧ r.txf = false) ∨ (p = .stb ∧ r.stb = false) ∨
        (p = .cwf ∧ r.cwf = false) ∨ (p = .adf ∧ r.adf = false) := by
  cases p <;> simp [portFlag]

/-- The read changes nothing but the inputs to come, so its fault is decided by the state before it. -/
theorem step_read {s : State} {p : OutPort} {rest : List Event} (h : s.inputs = .read p :: rest) :
    step s = portAccess (s.readFault p) (s.setInputs rest) := by
  simp only [step, h]
  rfl

theorem State.readFault_of_unwritten {s : State} {p : OutPort} (h : portFlag s.written p = some false) :
    s.readFault p = some (.readUnwritten p) :=
  if_pos h

/-- The port STAT has no flag, so a reserved ERR is what stops its read (93 I14). -/
theorem State.readFault_of_reservedErr {s : State} (h : statErr s.stat = 3) :
    s.readFault .stat = some .reservedErr := by
  simp [State.readFault, portFlag, h]

theorem State.readFault_eq_none {s : State} {p : OutPort} (hw : portFlag s.written p ≠ some false)
    (he : ¬(p = .stat ∧ statErr s.stat = 3)) : s.readFault p = none := by
  rw [State.readFault, if_neg hw, if_neg he]

/-! ## The statements -/

/-- Settles O43: SEND is the one event that writes the line, and it needs FV = 1. -/
theorem lineGrowsByWholeFrames : Obligations.LineGrowsByWholeFrames := by
  intro s t h
  rcases step_next h with ⟨-, rfl⟩ | ⟨rest, ⟨cmd, din, -, u, hu, rfl⟩ | ⟨-, rfl⟩ | ⟨cmd, din, taken, -, rfl⟩ |
    ⟨hin, hfv, rfl⟩ | ⟨-, rfl⟩ | ⟨p, -, rfl⟩ | ⟨b, -, rfl⟩⟩
  case inr.inl =>
    obtain ⟨hline, -, -⟩ := exec_txLine_resets_inputs hu
    exact .inl hline
  case inr.inr.inr.inl => exact .inl (State.resetDuring_txLine _ _ _)
  case inr.inr.inr.inr.inl => exact .inr ⟨hfv, ⟨rest, hin⟩, _, s.frame.length_toList, rfl, rfl⟩
  all_goals exact .inl rfl

/-- Settles O46: the three values of `readFault`, with the unwritten registers as `portFlag` has them. -/
theorem portReadsAndTheirFaults : Obligations.PortReadsAndTheirFaults := by
  intro s p rest h
  rw [step_read h]
  refine ⟨fun hw => ?_, fun ⟨hp, he⟩ => ?_, fun hok => ?_⟩
  · rw [State.readFault_of_unwritten (portFlag_eq_some_false.mpr hw)]
    rfl
  · rw [hp, State.readFault_of_reservedErr he]
    rfl
  · have hw : portFlag s.written p ≠ some false := by
      rw [ne_eq, portFlag_eq_some_false]
      tauto
    have he : ¬(p = .stat ∧ statErr s.stat = 3) := by tauto
    rw [State.readFault_eq_none hw he]
    rfl

end Sys2Proof.Machine
end

section
/-! The rules for the encoding family (spec 30): when a command word is a given operation, what ERR says of how an operation
ended, and the run of a controller's whole transaction (R61, R99, R108). -/

namespace Sys2Proof.Machine

/-! ## When a command is a given operation -/

/-- The operands of an operation stand in the fields of CMD and DIN that R51 gives them; an operation without operands
asks for nothing. `decode_eq_iff` ties it to `decode`. -/
def OperandsIn (c : CmdWord) (d : Word) : Instr → Prop
  | .ldb w => d = w
  | .enc n v => cmdN c = n ∧ d = v
  | .dec n => cmdN c = n
  | .frm l opc => cmdN c = l ∧ cmdOpc c = opc
  | _ => True

/-- The decoder takes the operands from their fields. -/
theorem operandsIn_decode (c : CmdWord) (d : Word) : OperandsIn c d (decode c d) := by
  unfold decode
  split <;> simp [OperandsIn]

/-- The decoder's map (R51) read backwards: the code and the operands fix the operation. -/
theorem decode_eq_iff {c : CmdWord} {d : Word} {i : Instr} :
    decode c d = i ↔ cmdOp c = i.opCode ∧ OperandsIn c d i := by
  constructor
  · rintro rfl
    exact ⟨(opCode_decode c d).symm, operandsIn_decode c d⟩
  · rintro ⟨hop, hfields⟩
    cases i with
    | ldb | dec => subst hfields; simp [decode, hop, Instr.opCode]
    | enc | frm => obtain ⟨rfl, rfl⟩ := hfields; simp [decode, hop, Instr.opCode]
    | _ => simp [decode, hop, Instr.opCode]

/-- Two commands hold the same operands exactly when they agree on the fields that the code uses (R51's columns). -/
theorem operandsIn_iff_of_operandsIn {c c' : CmdWord} {d d' : Word} {i : Instr} (h : OperandsIn c' d' i) :
    OperandsIn c d i ↔
      (i.opCode = 0x3 ∨ i.opCode = 0x4 ∨ i.opCode = 0x5 → cmdN c = cmdN c') ∧
      (i.opCode = 0x5 → cmdOpc c = cmdOpc c') ∧
      (i.opCode = 0x2 ∨ i.opCode = 0x3 → d = d') := by
  cases i with
  | ldb | dec => subst h; simp [OperandsIn, Instr.opCode]
  | enc | frm => obtain ⟨rfl, rfl⟩ := h; simp [OperandsIn, Instr.opCode]
  | _ => simp [OperandsIn, Instr.opCode]

/-- The assembler writes the code of the operation (R60). -/
theorem cmdOp_encode (i : Instr) : cmdOp (encode i).1 = i.opCode := by
  cases i <;> exact cmdOp_mkCmd _ _ _

/-- The assembler writes every operand to its field (R60). -/
theorem operandsIn_encode (i : Instr) : OperandsIn (encode i).1 (encode i).2 i := by
  cases i with
  | ldb => rfl
  | enc => exact ⟨cmdN_mkCmd _ _ _, rfl⟩
  | dec => exact cmdN_mkCmd _ _ _
  | frm => exact ⟨cmdN_mkCmd _ _ _, cmdOpc_mkCmd _ _ _⟩
  | _ => trivial

@[simp] theorem decode_encode (i : Instr) : decode (encode i).1 (encode i).2 = i :=
  decode_eq_iff.mpr ⟨cmdOp_encode i, operandsIn_encode i⟩

/-- The codes without a reserved value: all but ENC, DEC, FRM and the two reserved ones (R53, R54). -/
theorem wellFormed_of_opCode {i : Instr} (h : i.opCode.toNat ≤ 0xD) (h3 : i.opCode ≠ 0x3) (h4 : i.opCode ≠ 0x4)
    (h5 : i.opCode ≠ 0x5) : i.wellFormed = true := by
  cases i with
  | enc => exact absurd rfl h3
  | dec => exact absurd rfl h4
  | frm => exact absurd rfl h5
  | reservedE | reservedF => simp [Instr.opCode] at h
  | _ => rfl

/-! ## What ERR says of how an operation ended -/

/-- ERR = OK and TRUNC, STICKY kept, in bits (R89, R90). -/
theorem setErr_ok (b : Byte) : setErr .ok b = b &&& 0xFC := by
  simp [setErr, errCode]

/-- ERR = ILLEGAL with STICKY, in bits (R89, R92). -/
theorem setSticky_setErr_illegal (b : Byte) : setSticky (setErr .illegal b) = (b &&& 0xFC) ||| 0x0A := by
  simp [setSticky, setErr, errCode, BitVec.or_assoc]

/-- ERR is OK after an operation without a reserved value, ILLEGAL after one with, and TIMEOUT only where an element was
missing (R89). -/
theorem exec_statErr {i : Instr} {s t : State} (h : exec i s = .next t) :
    (statErr t.stat = 0 ∧ i.wellFormed = true) ∨ (statErr t.stat = 2 ∧ i.wellFormed = false) ∨
      (statErr t.stat = 1 ∧ i.wellFormed = true ∧ (rxTake (rxCount i) s.env).1 = none) := by
  obtain ⟨t', h', hc⟩ := exec_ends i s
  obtain rfl : t = t' := by simpa [h] using h'
  rcases hc with ⟨hw, u, rfl, -⟩ | ⟨hw, rfl⟩ | ⟨hw, e, he, rfl⟩
  · exact .inl ⟨by simp [complete_spec], hw⟩
  · exact .inr (.inl ⟨by simp [raise_spec], hw⟩)
  · exact .inr (.inr ⟨by simp [raise_spec], hw, by rw [he]⟩)

/-- No operation writes the reserved ERR (R89). -/
theorem exec_statErr_ne_three {i : Instr} {s t : State} (h : exec i s = .next t) : statErr t.stat ≠ 3 := by
  rcases exec_statErr h with ⟨he, -⟩ | ⟨he, -⟩ | ⟨he, -, -⟩ <;> simp [he]

/-- ILLEGAL is the mark of a reserved value (R92). -/
theorem exec_statErr_eq_two_iff {i : Instr} {s t : State} (h : exec i s = .next t) :
    statErr t.stat = 2 ↔ i.wellFormed = false := by
  rcases exec_statErr h with ⟨he, hw⟩ | ⟨he, hw⟩ | ⟨he, hw, -⟩ <;> simp [he, hw]

/-- The record of written result registers follows the writes (R20). -/
theorem opWrites_written (i : Instr) (bs : List Byte) (s : State) :
    (opWrites i bs s).written = markRegs (resultRegs i) true s.written := by
  cases i <;> rfl

/-- An operation that ends OK has written its result registers: the record says so. -/
theorem exec_written_of_ok {i : Instr} {s t : State} (h : exec i s = .next t) (hok : statErr t.stat = 0) :
    t.written = markRegs (resultRegs i) true s.written := by
  rcases exec_next h with ⟨bs, rfl⟩ | ⟨x, rfl⟩
  · exact opWrites_written i bs _
  · cases x <;> simp [raise_spec] at hok

/-- A response operation whose bytes all come (R77). -/
theorem respond_of_delivers {bs : List Byte} {s : State} {e : Env} (f : List Byte → State → State)
    (h : Delivers bs s.env e) : respond bs.length f s = .next (complete (f bs (s.setEnv e))) :=
  congrArg _ (respondState_some (rxTake_of_delivers h))

/-- FRM with a legal length completes the frame (R74). -/
theorem exec_frm {l : BitVec 4} (hl : l.toNat ≤ Config.payloadBytes) (opc : Byte) (s : State) :
    exec (.frm l opc) s = .next (complete (s.setFrame (buildFrame s.buf l.toNat opc))) :=
  congrArg _ (if_neg (Nat.not_lt.mpr hl))

/-! ## The pseudo-operations' data (R61) -/

theorem dinBytes_eq {w : Word} {a b c d : Byte} (ha : w.extractLsb' 24 8 = a) (hb : w.extractLsb' 16 8 = b)
    (hc : w.extractLsb' 8 8 = c) (hd : w.extractLsb' 0 8 = d) : dinBytes w = #v[a, b, c, d] := by
  subst ha hb hc hd
  rfl

/-- LDA's data word holds its two bytes in the upper half. -/
theorem dinBytes_lda (m l : Byte) : dinBytes ((zext32 m <<< 24) ||| (zext32 l <<< 16)) = #v[m, l, 0, 0] := by
  apply dinBytes_eq
  all_goals ext i hi; simp [zext32]; grind

/-- LDC's data word is LDA's with a second byte 0. -/
theorem dinBytes_ldc (c : Byte) : dinBytes (zext32 c <<< 24) = #v[c, 0, 0, 0] := by
  have hor : (zext32 c <<< 24) ||| (zext32 0 <<< 16) = zext32 c <<< 24 := by simp [zext32]
  rw [← hor, dinBytes_lda]

/-! ## A flag in a memory value byte (R87) -/

/-- The zero-extension to RES keeps the bit that a field names (R83, R87). -/
theorem flagOf_zext32 (f : FlagField) (b : Byte) :
    flagOf f (zext32 b) = (b.toNat.testBit f.bit.val == f.activeHigh) := by
  have hbit : f.bit.val < 32 := by omega
  have hsame : (zext32 b).getLsbD f.bit.val = b.toNat.testBit f.bit.val := by
    rw [zext32, BitVec.getLsbD_setWidth, decide_eq_true hbit, Bool.true_and]
    rfl
  rw [flagOf, hsame]

/-! ## Runs of the controller's events -/

theorem Reaches.trans {m n : Nat} {s u t : State} (h : Reaches m s u) (h' : Reaches n u t) : Reaches (m + n) s t := by
  induction m generalizing s with
  | zero => cases h; rwa [Nat.zero_add]
  | succ m ih =>
    obtain ⟨v, hv, hr⟩ := h
    rw [Nat.succ_add]
    exact ⟨v, hv, ih hr⟩

theorem Reaches.single {s t : State} (h : step s = .next t) : Reaches 1 s t := ⟨t, h, rfl⟩

/-- A step that takes an issued operation runs that operation (R60, R51). -/
theorem step_issue {i : Instr} {s u : State} {rest : List Event} (h : s.inputs = issue i :: rest)
    (hu : exec i (s.setInputs rest) = .next u) : step s = .next (u.noteOutcome i) := by
  rw [step_op h, decode_encode, hu]
  rfl

/-- The read of STAT passes unless it shows the reserved ERR (93 I14). -/
theorem step_read_stat {s : State} {rest : List Event} (h : s.inputs = .read .stat :: rest)
    (he : statErr s.stat ≠ 3) : step s = .next (s.setInputs rest) := by
  rw [step_read h, State.readFault_eq_none (by simp [portFlag]) fun hp => he hp.2]
  rfl

/-- A use passes on a port whose register is written and whose latest operation did not fail (R113). -/
theorem step_useResult {s : State} {p : OutPort} {rest : List Event} (h : s.inputs = .useResult p :: rest)
    (hw : portFlag s.written p = some true) (hf : portFlag s.failed p = some false) :
    step s = .next (s.setInputs rest) := by
  have hp : p ≠ .stat := by
    rintro rfl
    cases hw
  have hread : s.readFault p = none := State.readFault_eq_none (by simp [hw]) fun hs => hp hs.1
  have huse : (s.setInputs rest).useFault p = none := by
    have hread' : (s.setInputs rest).readFault p = none := hread
    simp [State.useFault, hread', hf]
  simp only [step, h]
  rw [doUseResult, huse]
  rfl

/-- An operation and the read of STAT after it take two steps, whatever the outcome (R99). -/
theorem reaches_issueChecked (i : Instr) {s : State} {rest : List Event} (h : s.inputs = issueChecked i ++ rest) :
    ∃ u, exec i (s.setInputs (.read .stat :: rest)) = .next u ∧
      Reaches (issueChecked i).length s ((u.noteOutcome i).setInputs rest) := by
  obtain ⟨u, hu, -⟩ := exec_ends i (s.setInputs (.read .stat :: rest))
  obtain ⟨-, -, hin⟩ := exec_txLine_resets_inputs hu
  have herr : statErr u.stat ≠ 3 := exec_statErr_ne_three hu
  have hread : step (u.noteOutcome i) = .next ((u.noteOutcome i).setInputs rest) := step_read_stat hin herr
  exact ⟨u, hu, (Reaches.single (step_issue h hu)).trans (.single hread)⟩

/-- A list of operations, each with its read of STAT, runs to its end and leaves the line as it was. -/
theorem reaches_issueChecked_list (ops : List Instr) {s : State} {rest : List Event}
    (h : s.inputs = ops.flatMap issueChecked ++ rest) :
    ∃ t, Reaches (ops.flatMap issueChecked).length s t ∧ t.inputs = rest ∧ t.env.txLine = s.env.txLine := by
  induction ops generalizing s with
  | nil => exact ⟨s, rfl, h, rfl⟩
  | cons i ops ih =>
    rw [List.flatMap_cons, List.append_assoc] at h
    obtain ⟨u, hu, hr⟩ := reaches_issueChecked i h
    obtain ⟨hline, -, -⟩ := exec_txLine_resets_inputs hu
    obtain ⟨t, ht, hin, htline⟩ := ih (s := (u.noteOutcome i).setInputs _) rfl
    refine ⟨t, ?_, hin, htline.trans hline⟩
    rw [List.flatMap_cons, List.length_append]
    exact hr.trans ht

/-! ## An action's transaction (R61, R99, R108) -/

/-- Every action builds its frame last, with its own opcode and a legal length (R61). -/
theorem Action.buildOps_eq (a : Action) :
    ∃ pre l, a.buildOps = pre ++ [.frm l (Config.opc a.command)] ∧ l.toNat ≤ Config.payloadBytes := by
  cases a with
  | toggle | getFrequency | getMode | getTransmitState | getSmeter => exact ⟨[], 0, rfl, by decide⟩
  | setMode | setRptDirection | setSquelchMode => exact ⟨[_], 1, rfl, by decide⟩
  | setSquelchTone | getVfo | getCwMeter | getAgcDsp | getSplit => exact ⟨[_], 2, rfl, by decide⟩
  | setFrequency | setRptOffset => exact ⟨[_], 4, rfl, by decide⟩

/-- An action has no response and no result, or one response operation without a reserved value that writes the register
of the result port (R61). -/
theorem Action.responseOp_cases (a : Action) :
    (a.responseOp = [] ∧ a.resultPort = none) ∨
      ∃ i, a.responseOp = [i] ∧ i.wellFormed = true ∧ ∀ p ∈ a.resultPort, portFlag (resultRegs i) p = some true := by
  cases a with
  | toggle => exact .inl ⟨rfl, rfl⟩
  | _ => exact .inr ⟨_, rfl, rfl, by simp [Action.resultPort, portFlag, resultRegs]⟩

/-- The frame ready and STAT = OK: what the building operations of an action come to. -/
theorem Action.reaches_buildOps (a : Action) {s : State} {rest : List Event}
    (h : s.inputs = a.buildOps.flatMap issueChecked ++ rest) :
    ∃ t, Reaches (a.buildOps.flatMap issueChecked).length s t ∧ t.inputs = rest ∧ t.env.txLine = s.env.txLine ∧
      t.fv = true ∧ byteAt t.frame 4 = Config.opc a.command ∧ statErr t.stat = 0 := by
  obtain ⟨pre, l, hops, hl⟩ := a.buildOps_eq
  rw [hops, List.flatMap_append, List.append_assoc] at h
  obtain ⟨v, hv, hin, hline⟩ := reaches_issueChecked_list pre h
  rw [List.flatMap_singleton] at hin
  obtain ⟨u, hu, hr⟩ := reaches_issueChecked _ hin
  obtain ⟨huline, -, -⟩ := exec_txLine_resets_inputs hu
  have hrun := hv.trans hr
  rw [← List.length_append, ← List.flatMap_singleton issueChecked, ← List.flatMap_append, ← hops] at hrun
  rw [exec_frm hl] at hu
  cases hu
  exact ⟨_, hrun, rfl, huline.trans hline, rfl, rfl, statErr_setErr_ok _⟩

/-- SEND with a frame ready puts its five bytes on the line and changes no register (R23, R39). -/
theorem reaches_send {s : State} {rest : List Event} (h : s.inputs = .send :: rest) (hfv : s.fv = true) :
    ∃ t, Reaches 1 s t ∧ t.inputs = rest ∧ t.stat = s.stat ∧
      t.env.txLine = s.env.txLine ++
        [byteAt s.frame 0, byteAt s.frame 1, byteAt s.frame 2, byteAt s.frame 3, byteAt s.frame 4] := by
  rw [← frame_toList]
  exact ⟨_, .single ((step_send h).trans (doSend_of_fv hfv)), rfl, rfl, rfl⟩

/-- The outcome on the STAT port, read off ERR (R29, R99). -/
theorem outcome_eq (s : State) : s.outcome = errOf (statErr s.stat) := by
  rw [State.outcome, statErr_statPort]

/-- A state in which an action has ended as R99 and R113 ask: the outcome is OK, and the result port, if there is one,
holds the action's own result; or the outcome is TIMEOUT. -/
def Action.Ended (a : Action) (t : State) : Prop :=
  (statErr t.stat = 0 ∧ ∀ p ∈ a.resultPort, portFlag t.written p = some true ∧ portFlag t.failed p = some false) ∨
    statErr t.stat = 1

/-- The response part of a transaction ends the action. -/
theorem Action.reaches_responseOp (a : Action) {s : State} {rest : List Event}
    (h : s.inputs = a.responseOp.flatMap issueChecked ++ rest) (hok : statErr s.stat = 0) :
    ∃ t, Reaches (a.responseOp.flatMap issueChecked).length s t ∧ t.inputs = rest ∧ t.env.txLine = s.env.txLine ∧
      a.Ended t := by
  rcases a.responseOp_cases with ⟨hop, hport⟩ | ⟨i, hop, hwf, hwrites⟩
  · rw [hop] at h ⊢
    exact ⟨s, rfl, h, rfl, .inl ⟨hok, by simp [hport]⟩⟩
  · rw [hop, List.flatMap_singleton] at h ⊢
    obtain ⟨u, hu, hr⟩ := reaches_issueChecked i h
    obtain ⟨hline, -, -⟩ := exec_txLine_resets_inputs hu
    refine ⟨_, hr, rfl, hline, ?_⟩
    rcases exec_statErr hu with ⟨he, -⟩ | ⟨-, hill⟩ | ⟨he, -, -⟩
    · refine .inl ⟨he, fun p hp => ⟨?_, ?_⟩⟩
      · simp [exec_written_of_ok hu he, portFlag_markRegs, hwrites p hp]
      · simp [he, portFlag_markRegs, hwrites p hp]
    · simp [hwf] at hill
    · exact .inr he

/-- The report of an action that has ended (R99). -/
theorem Action.Ended.result {a : Action} {t : State} (h : a.Ended t) :
    (statErr t.stat = 0 ∧ a.result t = some (a.value t)) ∨
      (statErr t.stat = 1 ∧ a.result t = some (.failed .timeout)) := by
  rcases h with ⟨he, -⟩ | he
  · exact .inl ⟨he, a.result_of_ok (by rw [outcome_eq, he]; rfl)⟩
  · exact .inr ⟨he, a.result_of_failure .timeout (by rw [outcome_eq, he]; rfl)⟩

/-- Taking the result of an action that has ended, as its outcome allows, changes nothing (R113). -/
theorem Action.Ended.reaches_resultEvents {a : Action} {t : State} (h : a.Ended t) (rest : List Event) :
    Reaches (a.resultEvents t.outcome).length (t.setInputs (a.resultEvents t.outcome ++ rest)) (t.setInputs rest) := by
  rcases h with ⟨he, hport⟩ | he
  · have hout : t.outcome = some .ok := by rw [outcome_eq, he]; rfl
    rw [hout, Action.resultEvents_of_ok]
    cases hp : a.resultPort with
    | none => rfl
    | some p =>
      obtain ⟨hw, hf⟩ := hport p hp
      exact .single (step_useResult rfl hw hf)
  · have hout : t.outcome = some .timeout := by rw [outcome_eq, he]; rfl
    rw [hout, Action.resultEvents_timeout]
    rfl

/-! ## The statements -/

/-- Settles O1: the encoded words hold the operation's code and operands. -/
theorem decodeEncodeAgree : Obligations.DecodeEncodeAgree :=
  decode_encode

/-- Settles O2: `decode_eq_iff` against the operation that the second command selects. -/
theorem decodeReadsExactlyUsedFields : Obligations.DecodeReadsExactlyUsedFields := by
  intro c c' d d'
  rw [decode_eq_iff, operandsIn_iff_of_operandsIn (operandsIn_decode c' d'), opCode_decode]
  refine and_congr_right fun hop => ?_
  rw [hop]

/-- Settles O5: such commands are the same operation; and the other codes hold no reserved value. -/
theorem ignoredFieldsHaveNoEffect : Obligations.IgnoredFieldsHaveNoEffect := by
  refine ⟨fun s c c' d d' hop hn hopc hdin => ?_, fun s c d hlt h3 h4 h5 => ?_⟩
  · rw [(decodeReadsExactlyUsedFields c c' d d').mpr ⟨hop, hn, hopc, hdin⟩]
  · obtain ⟨t, ht, -⟩ := exec_ends (decode c d) s
    rw [← opCode_decode c d] at hlt h3 h4 h5
    have hwf : (decode c d).wellFormed = true := wellFormed_of_opCode hlt h3 h4 h5
    exact ⟨t, ht, mt (exec_statErr_eq_two_iff ht).mp (by simp [hwf])⟩

/-- Settles O8: from the three values of ERR. -/
theorem illegalExactlyWhenIllFormed : Obligations.IllegalExactlyWhenIllFormed := by
  intro i s
  obtain ⟨t, ht, -⟩ := exec_ends i s
  exact ⟨t, ht, exec_statErr_eq_two_iff ht⟩

/-- Settles O30: the delivered bytes are those taken, so no element is missing. -/
theorem operationTakesExactlyItsElements : Obligations.OperationTakesExactlyItsElements := by
  intro i s bs e hlen hd
  obtain ⟨t, ht, -⟩ := exec_ends i s
  have htake : rxTake (rxCount i) s.env = (some bs, e) := hlen ▸ rxTake_of_delivers hd
  refine ⟨t, ht, by rw [exec_env ht, htake], ?_⟩
  rcases exec_statErr ht with ⟨he, -⟩ | ⟨he, -⟩ | ⟨-, -, hnone⟩
  · simp [he]
  · simp [he]
  · simp [htake] at hnone

/-- Settles O49: RMEM leaves the first byte in RES and the outcome OK; the flag is a bit of that byte. -/
theorem vfoAndSplitFlagsComeFromTheValueByte : Obligations.VfoAndSplitFlagsComeFromTheValueByte := by
  intro s b0 b1 e hd
  refine ⟨_, respond_of_delivers _ hd, rfl, rfl, ?_, ?_⟩
  all_goals
    rw [Action.result_of_ok _ (outcome_complete _), ← flagOf_zext32]
    rfl

/-- Settles O52: the frame is built, sent, and answered; each part runs to its end whatever the environment does. -/
theorem actionTransactionsNeverFault : Obligations.ActionTransactionsNeverFault := by
  intro a s rest h
  rw [Action.events, List.append_assoc, List.append_assoc] at h
  obtain ⟨u, hbuild, hin, hline, hfv, hopc, hok⟩ := a.reaches_buildOps h
  obtain ⟨v, hsend, hvin, hstat, hvline⟩ := reaches_send hin hfv
  obtain ⟨t, hresp, htin, htline, hended⟩ := a.reaches_responseOp hvin (by rw [hstat, hok])
  have hrun : Reaches a.events.length s t := by
    rw [Action.events, List.length_append, List.length_append]
    exact (hbuild.trans hsend).trans hresp
  rw [← htline, hline, hopc] at hvline
  exact ⟨t, _, _, _, _, hrun, htin, hvline, hended.result, hended.reaches_resultEvents⟩

/-- Settles O53: the data words of LDA and LDC as bytes, and FRM's frame with no payload byte. -/
theorem pseudoOperationsFillBufAndFrame : Obligations.PseudoOperationsFillBufAndFrame := by
  refine ⟨fun m l s => ?_, fun c s => ?_, fun opc s => ?_⟩
  · rw [← setErr_ok, ← dinBytes_lda]
    rfl
  · rw [← setErr_ok, ← dinBytes_ldc]
    rfl
  · rw [← setErr_ok]
    exact exec_frm (by decide) opc s

/-- Settles O3. -/
theorem decodedWordsFromVectors : Obligations.DecodedWordsFromVectors := by
  unfold Obligations.DecodedWordsFromVectors
  decide

/-- Settles O7: the code alone selects the operation, which raises Illegal. -/
theorem reservedCodesRunAsIllegal : Obligations.ReservedCodesRunAsIllegal := by
  refine ⟨fun c d h => decode_eq_iff.mpr ⟨h, trivial⟩, fun c d h => decode_eq_iff.mpr ⟨h, trivial⟩,
    fun s => ?_, fun s => ?_⟩
  all_goals
    rw [← setSticky_setErr_illegal]
    rfl

end Sys2Proof.Machine
end

section
/-! The rules for the codec family (spec 40): the buffer as its digit lanes; `bcd_decode` and `bcd_encode` one lane at a
time, and what they come to by induction on the number of digits; then the statements about the codec, ENC and DEC. -/

namespace Sys2Proof.Machine

/-! ## The buffer as its digit lanes (R38, R70) -/

theorem packByte_nibbles (b : Byte) : packByte (hiNibble b) (loNibble b) = b := by
  revert b; decide

/-- A buffer is its eight lanes. -/
theorem buf_ext_lane {a b : Buf} (h : ∀ k < 8, lane a k = lane b k) : a = b := by
  refine buf_ext fun i hi => ?_
  have hhi : hiNibble (byteAt a i) = hiNibble (byteAt b i) := by
    simpa only [lane_even] using h (2 * i) (by omega)
  have hlo : loNibble (byteAt a i) = loNibble (byteAt b i) := by
    simpa only [lane_odd] using h (2 * i + 1) (by omega)
  rw [← packByte_nibbles (byteAt a i), hhi, hlo, packByte_nibbles]

/-- Writing one digit lane: the other nibble of its byte is kept. `bcdEncode_succ` ties it to the codec. -/
def setLane (buf : Buf) (k : Nat) (d : BitVec 4) : Buf :=
  setByte buf (k / 2)
    (if k % 2 = 0 then packByte d (loNibble (byteAt buf (k / 2))) else packByte (hiNibble (byteAt buf (k / 2))) d)

theorem setLane_even (buf : Buf) (i : Nat) (d : BitVec 4) :
    setLane buf (2 * i) d = setByte buf i (packByte d (loNibble (byteAt buf i))) := by
  simp [setLane]

theorem setLane_odd (buf : Buf) (i : Nat) (d : BitVec 4) :
    setLane buf (2 * i + 1) d = setByte buf i (packByte (hiNibble (byteAt buf i)) d) := by
  simp [setLane, Nat.mul_add_div]

/-- A lane read after a lane write. -/
theorem lane_setLane (buf : Buf) {j : Nat} (k : Nat) (d : BitVec 4) (hj : j < 8) :
    lane (setLane buf j d) k = if k = j then d else lane buf k := by
  obtain ⟨i, rfl | rfl⟩ := Nat.even_or_odd' j
  all_goals
    have hi : i < 4 := by omega
    obtain ⟨l, rfl | rfl⟩ := Nat.even_or_odd' k
    all_goals
      simp only [setLane_even, setLane_odd, lane_even, lane_odd, byteAt_setByte _ _ _ hi]
      grind [hiNibble_packByte, loNibble_packByte]

/-- A byte is written by writing its two lanes. -/
theorem setLane_setLane (buf : Buf) {i : Nat} (hi lo : BitVec 4) (h : i < 4) :
    setLane (setLane buf (2 * i + 1) lo) (2 * i) hi = setByte buf i (packByte hi lo) := by
  rw [setLane_even, setLane_odd, byteAt_setByte _ _ _ h, if_pos rfl, loNibble_packByte]
  exact Vector.setIfInBounds_setIfInBounds ..

/-! ## Decoding, one lane at a time (R64) -/

@[simp] theorem bcdDecode_zero (B : Buf) : bcdDecode B 0 = 0 := rfl

theorem bcdDecode_even (B : Buf) (i : Nat) : bcdDecode B (2 * i) = bcdDecodeBytes B i := by
  simp [bcdDecode]

theorem bcdDecode_odd (B : Buf) (i : Nat) :
    bcdDecode B (2 * i + 1) = bcdFold (bcdDecodeBytes B i) (lane B (2 * i)) := by
  simp [bcdDecode, lane_even, Nat.mul_add_div]

/-- One more digit: its lane is folded in last, in both halves of a byte. -/
theorem bcdDecode_succ (B : Buf) (N : Nat) : bcdDecode B (N + 1) = bcdFold (bcdDecode B N) (lane B N) := by
  obtain ⟨i, rfl | rfl⟩ := Nat.even_or_odd' N
  · rw [bcdDecode_odd, bcdDecode_even]
  · calc bcdDecode B (2 * (i + 1)) = bcdDecodeBytes B (i + 1) := bcdDecode_even B (i + 1)
      _ = bcdFold (bcdFold (bcdDecodeBytes B i) (lane B (2 * i))) (lane B (2 * i + 1)) := by
        rw [lane_even, lane_odd, bcdDecodeBytes]
      _ = bcdFold (bcdDecode B (2 * i + 1)) (lane B (2 * i + 1)) := by rw [bcdDecode_odd]

/-- An accumulator that leaves room for one more nibble does not wrap. -/
theorem toNat_bcdFold {acc : Word} (d : BitVec 4) (h : acc.toNat * 10 + 15 < 2 ^ 32) :
    (bcdFold acc d).toNat = acc.toNat * 10 + d.toNat := by
  have hd : d.toNat < 16 := d.isLt
  have hten : (10 : Word).toNat = 10 := rfl
  rw [bcdFold, BitVec.toNat_add, BitVec.toNat_mul, BitVec.toNat_setWidth, hten]
  omega

/-- An accumulator of fewer than eight nibbles leaves room for one more. -/
theorem room_for_nibble {acc N : Nat} (hacc : 3 * acc + 5 ≤ 5 * 10 ^ N) (h : N < 8) : acc * 10 + 15 < 2 ^ 32 := by
  have hpow : 10 ^ N ≤ 10 ^ 7 := Nat.pow_le_pow_right (by omega) (by omega)
  omega

/-- The largest value of `N` nibbles is 15 times `N` ones, `15 * (10^N - 1) / 9`. -/
theorem toNat_bcdDecode_le (B : Buf) {N : Nat} (h : N ≤ 8) : 3 * (bcdDecode B N).toNat + 5 ≤ 5 * 10 ^ N := by
  induction N with
  | zero => simp
  | succ N ih =>
    have hacc : 3 * (bcdDecode B N).toNat + 5 ≤ 5 * 10 ^ N := ih (by omega)
    have hd : (lane B N).toNat < 16 := (lane B N).isLt
    rw [bcdDecode_succ, toNat_bcdFold _ (room_for_nibble hacc h), pow_succ]
    omega

/-- No fold of a field of up to eight digits wraps. -/
theorem toNat_bcdDecode_succ (B : Buf) {N : Nat} (h : N < 8) :
    (bcdDecode B (N + 1)).toNat = (bcdDecode B N).toNat * 10 + (lane B N).toNat := by
  rw [bcdDecode_succ, toNat_bcdFold _ (room_for_nibble (toNat_bcdDecode_le B h.le) h)]

/-- The decoded value with the weights of R70. -/
theorem toNat_bcdDecode (B : Buf) {N : Nat} (h : N ≤ 8) :
    (bcdDecode B N).toNat = ∑ k ∈ Finset.range N, (lane B k).toNat * 10 ^ (N - 1 - k) := by
  induction N with
  | zero => rfl
  | succ N ih =>
    have hshift : ∀ k ∈ Finset.range N,
        (lane B k).toNat * 10 ^ (N - 1 - k) * 10 = (lane B k).toNat * 10 ^ (N + 1 - 1 - k) := by
      intro k hk
      have hlt : k < N := Finset.mem_range.mp hk
      have hexp : N + 1 - 1 - k = N - 1 - k + 1 := by omega
      rw [hexp, pow_succ, mul_assoc]
    rw [toNat_bcdDecode_succ B h, ih (by omega), Finset.sum_mul, Finset.sum_congr rfl hshift, Finset.sum_range_succ]
    simp

/-! ## Encoding, one lane at a time (R63) -/

@[simp] theorem bcdEncode_zero (buf : Buf) (v : Word) : bcdEncode buf v 0 = buf := rfl

theorem toNat_div_ten (v : Word) : (v / 10).toNat = v.toNat / 10 := by simp

theorem bcdEncode_even (buf : Buf) (v : Word) (i : Nat) :
    bcdEncode buf v (2 * i) = bcdEncodeBytes i v.toNat buf := by
  rw [bcdEncode, if_neg (by omega), Nat.mul_div_cancel_left i Nat.two_pos]

theorem bcdEncode_odd (buf : Buf) (v : Word) (i : Nat) :
    bcdEncode buf v (2 * i + 1) = bcdEncodeBytes i (v.toNat / 10) (setLane buf (2 * i) (digit v.toNat)) := by
  have hi : (2 * i + 1) / 2 = i := by omega
  rw [bcdEncode, if_pos (by omega), hi, setLane_even]

/-- One more digit: the least significant is written to the last lane, and the quotient to the lanes before it, in both
halves of a byte. -/
theorem bcdEncode_succ (buf : Buf) (v : Word) {N : Nat} (h : N < 8) :
    bcdEncode buf v (N + 1) = bcdEncode (setLane buf N (digit v.toNat)) (v / 10) N := by
  obtain ⟨i, rfl | rfl⟩ := Nat.even_or_odd' N
  · rw [bcdEncode_odd, bcdEncode_even, toNat_div_ten]
  · calc bcdEncode buf v (2 * (i + 1)) = bcdEncodeBytes (i + 1) v.toNat buf := bcdEncode_even buf v (i + 1)
      _ = bcdEncodeBytes i (v.toNat / 10 / 10)
          (setLane (setLane buf (2 * i + 1) (digit v.toNat)) (2 * i) (digit (v.toNat / 10))) := by
        rw [bcdEncodeBytes, setLane_setLane _ _ _ (by omega)]
      _ = bcdEncode (setLane buf (2 * i + 1) (digit v.toNat)) (v / 10) (2 * i + 1) := by
        rw [bcdEncode_odd, toNat_div_ten]

/-- The encoded digits at their places (R56), every other lane kept. -/
theorem lane_bcdEncode (buf : Buf) (v : Word) {N : Nat} (k : Nat) (h : N ≤ 8) :
    lane (bcdEncode buf v N) k = if k < N then digit (v.toNat / 10 ^ (N - 1 - k)) else lane buf k := by
  induction N generalizing buf v with
  | zero => simp
  | succ N ih =>
    rw [bcdEncode_succ buf v h, ih _ _ (by omega), lane_setLane _ _ _ h, toNat_div_ten]
    rcases Nat.lt_trichotomy k N with hk | rfl | hk
    · have hexp : N + 1 - 1 - k = N - 1 - k + 1 := by omega
      rw [if_pos hk, if_pos (by omega), hexp, Nat.div_div_eq_div_mul, pow_succ']
    · simp
    · rw [if_neg (by omega), if_neg (by omega), if_neg (by omega)]

/-- Decoding an encoded value gives its last `N` digits: the last lane holds `v mod 10`, the others the quotient's. -/
theorem toNat_bcdDecode_bcdEncode (buf : Buf) (v : Word) {N : Nat} (h : N ≤ 8) :
    (bcdDecode (bcdEncode buf v N) N).toNat = v.toNat % 10 ^ N := by
  induction N generalizing buf v with
  | zero => simp [Nat.mod_one]
  | succ N ih =>
    have hlast : (lane (bcdEncode buf v (N + 1)) N).toNat = v.toNat % 10 := by
      simp [lane_bcdEncode buf v N h]
    rw [toNat_bcdDecode_succ _ h, hlast, bcdEncode_succ buf v h, ih _ _ (by omega), toNat_div_ten, pow_succ',
      Nat.mod_mul]
    ring

/-- The digits that fit a field of `N` are those of the remainder (R68). -/
theorem digit_mod_pow (w : Nat) {j N : Nat} (h : j < N) : digit (w % 10 ^ N / 10 ^ j) = digit (w / 10 ^ j) := by
  apply BitVec.eq_of_toNat_eq
  obtain ⟨m, rfl⟩ := Nat.exists_eq_add_of_lt h
  rw [digit_toNat, digit_toNat, pow_succ, pow_add, mul_assoc, Nat.mod_mul_right_div_self, Nat.mod_mul_left_mod]

/-! ## ENC and DEC as STAT and register writes -/

/-- TRUNC and ERR = OK, in bits (R66). -/
theorem setErr_ok_setTrunc (t : Bool) (b : Byte) :
    setErr .ok (setTrunc t b) = (b &&& 0xF8) ||| (if t then 0x04 else 0x00) := by
  cases t <;> (revert b; decide)

/-- A reserved value raises Illegal and does nothing else (R92). -/
theorem exec_of_not_wellFormed {i : Instr} (h : i.wellFormed = false) (s : State) :
    exec i s = .next { s with stat := (s.stat &&& 0xFC) ||| 0x0A } := by
  obtain ⟨t, ht, ⟨hw, -⟩ | ⟨-, rfl⟩ | ⟨hw, -⟩⟩ := exec_ends i s
  · simp [h] at hw
  · rw [ht, raise_spec, Exc.err_illegal, setSticky_setErr_illegal]
  · simp [h] at hw

/-- ENC with a legal width (R66). -/
theorem exec_enc {n : BitVec 4} (hn : n.toNat ≤ Config.nMax) (v : Word) (s : State) :
    exec (.enc n v) s =
      .next (complete ((s.setBuf (bcdEncode s.buf v n.toNat)).setStat (setTrunc (truncates v n.toNat) s.stat))) :=
  congrArg _ (if_neg (Nat.not_lt.mpr hn))

/-- DEC with a legal width (R67). -/
theorem exec_dec {n : BitVec 4} (hn : n.toNat ≤ Config.nMax) (s : State) :
    exec (.dec n) s = .next (complete (s.setRes (bcdDecode s.buf n.toNat))) :=
  congrArg _ (if_neg (Nat.not_lt.mpr hn))

/-! ## The statements -/

/-- Settles O16: both clauses are the last `N` digits of the value. -/
theorem bcdRoundTrip : Obligations.BcdRoundTrip := by
  intro N buf v hN
  have hval := toNat_bcdDecode_bcdEncode buf v hN
  exact ⟨fun hv => BitVec.eq_of_toNat_eq (hval.trans (Nat.mod_eq_of_lt hv)), fun _ => hval⟩

/-- Settles O14: the encoded lanes as numbers. -/
theorem encWritesDecimalDigits : Obligations.EncWritesDecimalDigits := by
  refine ⟨fun c d h => decode_eq_iff.mpr ⟨h, rfl, rfl⟩, fun n v s hn => ?_, fun n v s hn => ?_⟩
  · refine ⟨bcdEncode s.buf v n.toNat, fun k hk => ?_, fun k hk _ => ?_, ?_⟩
    · rw [lane_bcdEncode _ _ _ hn, if_pos hk, digit_toNat]
    · rw [lane_bcdEncode _ _ _ hn, if_neg (Nat.not_lt.mpr hk)]
    · rw [exec_enc hn, complete_spec, State.setStat_stat, setErr_ok_setTrunc]
      simp only [truncates, decide_eq_true_eq]
      rfl
  · exact exec_of_not_wellFormed (by simpa [Instr.wellFormed] using hn) s

/-- Settles O15: the decoded value with its weights. -/
theorem decSumsWeightedLanes : Obligations.DecSumsWeightedLanes := by
  refine ⟨fun c d h => decode_eq_iff.mpr ⟨h, rfl⟩, fun n s hn => ?_, fun n s hn => ?_⟩
  · refine ⟨bcdDecode s.buf n.toNat, toNat_bcdDecode s.buf hn, ?_⟩
    rw [exec_dec hn, complete_spec, State.setRes_stat, setErr_ok]
    rfl
  · exact exec_of_not_wellFormed (by simpa [Instr.wellFormed] using hn) s

/-- Settles O17: the two buffers lane by lane. -/
theorem encodeTruncatesModulo : Obligations.EncodeTruncatesModulo := by
  intro N buf v hN hv
  have hrem : (BitVec.ofNat 32 (v.toNat % 10 ^ N)).toNat = v.toNat % 10 ^ N :=
    Nat.mod_eq_of_lt ((Nat.mod_le _ _).trans_lt v.isLt)
  refine ⟨buf_ext_lane fun k _ => ?_, decide_eq_true hv⟩
  rw [lane_bcdEncode _ _ _ hN, lane_bcdEncode _ _ _ hN, hrem]
  by_cases hk : k < N
  · rw [if_pos hk, if_pos hk, digit_mod_pow _ (by omega)]
  · rw [if_neg hk, if_neg hk]

/-- Settles O18: the bound for `N` nibbles at `N = 8`, reached by four bytes FF. -/
theorem decodeNeverOverflows : Obligations.DecodeNeverOverflows := by
  refine ⟨fun N B hN => ?_, by decide⟩
  have hle := toNat_bcdDecode_le B hN
  have hpow : 10 ^ N ≤ 10 ^ 8 := Nat.pow_le_pow_right (by omega) hN
  omega

/-- Settles O19: each digit folded in is a lane of the field. -/
theorem decodeReadsOnlyItsField : Obligations.DecodeReadsOnlyItsField := by
  intro N A B hN hlanes
  induction N with
  | zero => rfl
  | succ N ih =>
    have hacc : bcdDecode A N = bcdDecode B N := ih (by omega) fun k hk => hlanes k (by omega)
    rw [bcdDecode_succ, bcdDecode_succ, hacc, hlanes N (by omega)]

end Sys2Proof.Machine
end

section
/-! The rules for the frame builder family (spec 41): the bytes of a loaded DIN and of a built frame; NOP, CLR, LDB and FRM
as register writes; then the statements about them. -/

namespace Sys2Proof.Machine

/-! ## The bytes of a loaded DIN and of a built frame -/

/-- LDB's field of DIN for each byte (R40, R73). -/
theorem byteAt_dinBytes (w : Word) {i : Nat} (h : i < 4) : byteAt (dinBytes w) i = w.extractLsb' (24 - 8 * i) 8 := by
  interval_cases i <;> rfl

/-- A bit field as a quotient and a remainder (R9). -/
theorem toNat_byteAt_dinBytes (w : Word) {i : Nat} (h : i < 4) :
    (byteAt (dinBytes w) i).toNat = w.toNat / 2 ^ (24 - 8 * i) % 2 ^ 8 := by
  rw [byteAt_dinBytes w h, BitVec.extractLsb'_toNat, Nat.shiftRight_eq_div_pow]

/-- The payload of a built frame, zero-filled (R74). -/
theorem byteAt_buildFrame (buf : Buf) (l : Nat) (opc : Byte) {i : Nat} (h : i < 4) :
    byteAt (buildFrame buf l opc) i = if i < l then byteAt buf i else 0 := by
  interval_cases i <;> rfl

/-- The opcode stands last in a built frame (R55, R74). -/
@[simp] theorem byteAt_buildFrame_four (buf : Buf) (l : Nat) (opc : Byte) : byteAt (buildFrame buf l opc) 4 = opc := rfl

/-! ## The operations as register writes -/

/-- Every operation of the family that is not Illegal ends this way: ERR = OK, in bits (R29, R90). -/
theorem complete_eq (s : State) : complete s = { s with stat := s.stat &&& 0xFC } := by
  rw [complete_spec, setErr_ok]

/-- NOP writes no register of its own (R71). -/
theorem exec_nop (s : State) : exec .nop s = .next (complete s) := rfl

/-- CLR writes BUF (R72). -/
theorem exec_clr (s : State) : exec .clr s = .next (complete (s.setBuf #v[0, 0, 0, 0])) := rfl

/-- LDB writes BUF (R73). -/
theorem exec_ldb (w : Word) (s : State) : exec (.ldb w) s = .next (complete (s.setBuf (dinBytes w))) := rfl

/-- FRAME after an FRM that is not Illegal: the length was legal, since a reserved length is Illegal (R54, R74, R92). -/
theorem exec_frm_frame {l : BitVec 4} {opc : Byte} {s t : State} (h : exec (.frm l opc) s = .next t)
    (hlegal : statErr t.stat ≠ 2) : t.frame = buildFrame s.buf l.toNat opc := by
  have hwf : (Instr.frm l opc).wellFormed = true := by simpa using mt (exec_statErr_eq_two_iff h).mpr hlegal
  have hl : l.toNat ≤ Config.payloadBytes := of_decide_eq_true hwf
  rw [exec_frm hl] at h
  cases h
  rfl

/-! ## The statements -/

/-- Settles O11: each byte is its field of DIN, as a number. -/
theorem ldbLoadsDinBigEndian : Obligations.LdbLoadsDinBigEndian := by
  refine ⟨fun c d h => decode_eq_iff.mpr ⟨h, rfl⟩, fun w s => ?_⟩
  refine ⟨dinBytes w, fun i hi => toNat_byteAt_dinBytes w hi, ?_⟩
  rw [exec_ldb, complete_eq]
  rfl

/-- Settles O12: the frame is the built one for a legal length, and a reserved length is Illegal. -/
theorem frmBuildsFrame : Obligations.FrmBuildsFrame := by
  refine ⟨fun c d h => decode_eq_iff.mpr ⟨h, rfl, rfl⟩, fun l opc s hl => ?_, fun l opc s hl => ?_⟩
  · refine ⟨buildFrame s.buf l.toNat opc, fun i hi => byteAt_buildFrame _ _ _ hi, byteAt_buildFrame_four _ _ _, ?_⟩
    rw [exec_frm hl, complete_eq]
    rfl
  · exact exec_of_not_wellFormed (by simpa [Instr.wellFormed] using hl) s

/-- Settles O13: FRM leaves the built frame, and no other operation writes FRAME. -/
theorem frameShapeAndStability : Obligations.FrameShapeAndStability := by
  refine ⟨fun l opc s t h hlegal => ?_, fun i s t h hne => ?_⟩
  · rw [exec_frm_frame h hlegal]
    refine ⟨Vector.length_toList, byteAt_buildFrame_four _ _ _, ?_⟩
    rintro rfl i hi
    simp [byteAt_buildFrame _ _ _ hi]
  · rcases exec_frame_fv h with ⟨hframe, -⟩ | ⟨l, opc, rfl⟩
    · exact hframe
    · exact absurd rfl (hne l opc)

/-- Settles O9: NOP only ends OK. -/
theorem nopWritesOnlyErr : Obligations.NopWritesOnlyErr := by
  refine ⟨fun c d h => decode_eq_iff.mpr ⟨h, trivial⟩, fun s => ?_⟩
  rw [exec_nop, complete_eq]

/-- Settles O10: CLR writes four zero bytes and ends OK. -/
theorem clrZeroesBuf : Obligations.ClrZeroesBuf := by
  refine ⟨fun c d h => decode_eq_iff.mpr ⟨h, trivial⟩, fun s => ?_⟩
  rw [exec_clr, complete_eq]
  rfl

end Sys2Proof.Machine
end

section
/-! The rules for the response decoder family (spec 42): the fields of a response byte as numbers; a response operation as
its elements taken and its writes, with all bytes and with a Timeout; then the statements about them. -/

namespace Sys2Proof.Machine

/-! ## The fields of a response byte as numbers (R10, R58) -/

theorem zext32_eq (b : Byte) : zext32 b = BitVec.ofNat 32 b.toNat :=
  (BitVec.ofNat_toNat 32 b).symm

/-- The S-meter nibble is the remainder by 16 (R80). -/
theorem zext32_smeterBits (b : Byte) : zext32 (smeterBits b) = BitVec.ofNat 32 (b.toNat % 16) := by
  have hmask : b.toNat &&& 0x0F = b.toNat % 2 ^ 4 := Nat.and_two_pow_sub_one_eq_mod b.toNat 4
  rw [zext32_eq, smeterBits, BitVec.toNat_and]
  exact congrArg _ hmask

/-- The polarity of TXF: only the sentinel means receiving (R81). -/
theorem transmitting_eq (b sentinel : Byte) : transmitting b sentinel = decide (b ≠ sentinel) := by
  by_cases h : b = sentinel <;> simp [transmitting, h]

theorem cwfOf_eq (b : Byte) :
    cwfOf b = ⟨BitVec.ofNat 2 (b.toNat % 4), b.toNat.testBit 4, b.toNat.testBit 5⟩ := by
  have hmtr : b.extractLsb' 0 2 = BitVec.ofNat 2 (b.toNat % 4) := by
    apply BitVec.eq_of_toNat_eq
    simp
  rw [← hmtr]
  rfl

theorem adfOf_eq (b : Byte) :
    adfOf b = ⟨b.toNat.testBit 5, b.toNat.testBit 2, b.toNat.testBit 1, b.toNat.testBit 0⟩ := rfl

/-! ## A response operation as its elements and its writes (R77) -/

/-- ERR = TIMEOUT with STICKY, in bits (R89, R91). -/
theorem setSticky_setErr_timeout (b : Byte) : setSticky (setErr .timeout b) = (b &&& 0xFC) ||| 0x09 := by
  simp [setSticky, setErr, errCode, BitVec.or_assoc]

/-- The eight operations that take elements are one shape: take the count of R51, then the writes of `opWrites`. -/
theorem exec_eq_respond {i : Instr} (hk : rxCount i ≠ 0) (s : State) :
    exec i s = respond (rxCount i) (opWrites i) s := by
  rcases rxCount_eq_zero_or i with h | rfl | rfl | rfl | rfl | rfl | rfl | rfl | rfl
  · exact absurd h hk
  all_goals rfl

/-- With all its bytes, an operation makes its writes and ends OK. -/
theorem exec_of_delivers {i : Instr} {bs : List Byte} {s : State} {e : Env} (hk : rxCount i ≠ 0)
    (hlen : bs.length = rxCount i) (hd : Delivers bs s.env e) :
    exec i s = .next (complete (opWrites i bs (s.setEnv e))) := by
  rw [exec_eq_respond hk, ← hlen]
  exact respond_of_delivers _ hd

/-- With a Timeout at any of its elements, an operation writes STAT alone, and the elements taken are gone (R91). -/
theorem exec_of_timesOut {i : Instr} {taken : List Byte} {s : State} {e : Env} (hlt : taken.length < rxCount i)
    (ht : TimesOutAfter taken s.env e) :
    exec i s = .next { s with env := e, stat := (s.stat &&& 0xFC) ||| 0x09 } := by
  rw [exec_eq_respond (Nat.ne_zero_of_lt hlt), respond, respondState_none (rxTake_of_timesOut hlt ht), raise_spec,
    Exc.err_timeout, setSticky_setErr_timeout]
  rfl

/-! ## BUF and FRAME have no part in a response operation (R87) -/

/-- The writes of a response operation are the same over any BUF and FRAME. -/
theorem opWrites_withBufFrame {i : Instr} (hk : rxCount i ≠ 0) (bs : List Byte) (s : State) (b : Buf) (f : Frame) :
    opWrites i bs { s with buf := b, frame := f } = { opWrites i bs s with buf := b, frame := f } := by
  rcases rxCount_eq_zero_or i with h | rfl | rfl | rfl | rfl | rfl | rfl | rfl | rfl
  · exact absurd h hk
  all_goals rfl

/-- The elements taken do not depend on BUF and FRAME, and neither do the two ends. -/
theorem respondState_withBufFrame {g : List Byte → State → State} (k : Nat) (s : State) (b : Buf) (f : Frame)
    (hg : ∀ bs u, g bs { u with buf := b, frame := f } = { g bs u with buf := b, frame := f }) :
    respondState k g { s with buf := b, frame := f } = { respondState k g s with buf := b, frame := f } := by
  rcases respondState_cases k g s with ⟨bs, e, -, ht, h⟩ | ⟨e, ht, h⟩
  · rw [h, respondState_some (s := { s with buf := b, frame := f }) ht]
    exact congrArg complete (hg bs (s.setEnv e))
  · rw [h, respondState_none (s := { s with buf := b, frame := f }) ht]
    rfl

/-! ## The statements -/

/-- Settles O29: the Timeout ends the taking of elements, so no result write is reached. -/
theorem timeoutWritesOnlyStat : Obligations.TimeoutWritesOnlyStat :=
  fun _ _ _ _ hlt ht => exec_of_timesOut hlt ht

/-- Settles O32: the writes and the two ends over any BUF and FRAME. -/
theorem responseIgnoresBufAndFrame : Obligations.ResponseIgnoresBufAndFrame := by
  intro i s b f hk
  refine ⟨respondState (rxCount i) (opWrites i) s, exec_eq_respond hk s, ?_⟩
  rw [exec_eq_respond hk, respond, respondState_withBufFrame _ _ _ _ fun bs u => opWrites_withBufFrame hk bs u b f]

/-- Settles O25: the four bytes decoded with the weights of R70, the fifth kept. -/
theorem rfrqReadsFrequencyAndStatus : Obligations.RfrqReadsFrequencyAndStatus := by
  refine ⟨fun c d h => decode_eq_iff.mpr ⟨h, trivial⟩, fun s b0 b1 b2 b3 b4 e hd => ?_,
    fun s taken e hlt ht => exec_of_timesOut hlt ht⟩
  refine ⟨bcdDecode #v[b0, b1, b2, b3] Config.nFreq, toNat_bcdDecode _ le_rfl, ?_⟩
  rw [exec_of_delivers (by decide) rfl hd, complete_eq]
  rfl

/-- Settles O21: RACK has no write of its own. -/
theorem rackDiscardsOneByte : Obligations.RackDiscardsOneByte := by
  refine ⟨fun c d h => decode_eq_iff.mpr ⟨h, trivial⟩, fun s b0 e hd => ?_,
    fun s e ht => exec_of_timesOut (by decide) ht⟩
  rw [exec_of_delivers (by decide) rfl hd, complete_eq]
  rfl

/-- Settles O22: the byte, zero-extended. -/
theorem rrawReturnsTheByte : Obligations.RrawReturnsTheByte := by
  refine ⟨fun c d h => decode_eq_iff.mpr ⟨h, trivial⟩, fun s b0 e hd => ?_,
    fun s e ht => exec_of_timesOut (by decide) ht⟩
  rw [exec_of_delivers (by decide) rfl hd, complete_eq, ← zext32_eq]
  rfl

/-- Settles O23: the masked byte as a remainder. -/
theorem rsmtReturnsLowNibble : Obligations.RsmtReturnsLowNibble := by
  refine ⟨fun c d h => decode_eq_iff.mpr ⟨h, trivial⟩, fun s b0 e hd => ?_,
    fun s e ht => exec_of_timesOut (by decide) ht⟩
  rw [exec_of_delivers (by decide) rfl hd, complete_eq, ← zext32_smeterBits]
  rfl

/-- Settles O24: the comparison, whatever TX_SENTINEL is. -/
theorem rtxsComparesWithSentinel : Obligations.RtxsComparesWithSentinel := by
  refine ⟨fun c d h => decode_eq_iff.mpr ⟨h, trivial⟩, fun s b0 e hd => ?_,
    fun s e ht => exec_of_timesOut (by decide) ht⟩
  rw [exec_of_delivers (by decide) rfl hd, complete_eq, ← transmitting_eq]
  rfl

/-- Settles O26: the first byte, zero-extended; the writes have no use for the second. -/
theorem rmemReturnsFirstByte : Obligations.RmemReturnsFirstByte := by
  refine ⟨fun c d h => decode_eq_iff.mpr ⟨h, trivial⟩, fun s b0 b1 e hd => ?_,
    fun s taken e hlt ht => exec_of_timesOut hlt ht⟩
  rw [exec_of_delivers (by decide) rfl hd, complete_eq, ← zext32_eq]
  rfl

/-- Settles O27: the first byte and its CW fields. -/
theorem rcwmExtractsCwFields : Obligations.RcwmExtractsCwFields := by
  refine ⟨fun c d h => decode_eq_iff.mpr ⟨h, trivial⟩, fun s b0 b1 e hd => ?_,
    fun s taken e hlt ht => exec_of_timesOut hlt ht⟩
  rw [exec_of_delivers (by decide) rfl hd, complete_eq, ← zext32_eq, ← cwfOf_eq]
  rfl

/-- Settles O28: the first byte and its AGC fields. -/
theorem ragcExtractsAgcFields : Obligations.RagcExtractsAgcFields := by
  refine ⟨fun c d h => decode_eq_iff.mpr ⟨h, trivial⟩, fun s b0 b1 e hd => ?_,
    fun s taken e hlt ht => exec_of_timesOut hlt ht⟩
  rw [exec_of_delivers (by decide) rfl hd, complete_eq, ← zext32_eq, ← adfOf_eq]
  rfl

end Sys2Proof.Machine
end

section
/-! The rules for the exceptions family (spec 60): what an operation and a run without a reset do to STAT, the outcome
that the controller reads and what it reports; then the statements about them. -/

namespace Sys2Proof.Machine

/-! ## STAT after an operation -/

/-- Everything an operation can write to STAT: OK over the old STAT or over ENC's TRUNC, or a failure with STICKY
(R90 to R94). -/
theorem exec_stat_cases {i : Instr} {s t : State} (h : exec i s = .next t) :
    t.stat = setErr .ok s.stat ∨
      (∃ n v, i = .enc n v ∧ t.stat = setErr .ok (setTrunc (truncates v n.toNat) s.stat)) ∨
      ∃ x : Exc, t.stat = setSticky (setErr x.err s.stat) := by
  obtain ⟨t', h', hc⟩ := exec_ends i s
  obtain rfl : t = t' := by simpa [h] using h'
  rcases hc with ⟨-, u, rfl, -, -, -, -, hu | ⟨n, v, hi, hu⟩⟩ | ⟨-, rfl⟩ | ⟨-, e, -, rfl⟩
  · exact .inl (congrArg (setErr .ok) hu)
  · exact .inr (.inl ⟨n, v, hi, congrArg (setErr .ok) hu⟩)
  · exact .inr (.inr ⟨.illegal, rfl⟩)
  · exact .inr (.inr ⟨.timeout, rfl⟩)

/-- No operation clears STICKY (R93). -/
theorem exec_statSticky {i : Instr} {s t : State} (h : exec i s = .next t) (hs : statSticky s.stat = true) :
    statSticky t.stat = true := by
  rcases exec_stat_cases h with ht | ⟨n, v, -, ht⟩ | ⟨x, ht⟩ <;> simp [ht, hs]

/-! ## STICKY along a run without a reset (R93) -/

/-- What every step keeps holds at the end of a run if it holds at the start. -/
theorem Reaches.invariant {P : State → Prop} (hstep : ∀ s t, P s → step s = .next t → P t) {n : Nat} {s t : State}
    (h : Reaches n s t) (hs : P s) : P t := by
  induction n generalizing s with
  | zero => cases h; exact hs
  | succ n ih =>
    obtain ⟨u, hu, hr⟩ := h
    exact ih hr (hstep s u hs hu)

/-- A step counts a reset, or it keeps the count and a set STICKY. -/
theorem step_resets_or_keeps_sticky {s t : State} (h : step s = .next t) :
    t.resets = s.resets + 1 ∨ (t.resets = s.resets ∧ (statSticky s.stat = true → statSticky t.stat = true)) := by
  rcases step_kinds h with ⟨cmd, din, rest, u, -, hu, rfl⟩ | ⟨e, l, rfl⟩ | ⟨e, l, rfl⟩
  · obtain ⟨-, hresets, -⟩ := exec_txLine_resets_inputs hu
    exact .inr ⟨hresets, exec_statSticky (s := s.setInputs rest) (t := u) hu⟩
  · exact .inl rfl
  · exact .inr ⟨rfl, id⟩

/-- The reset count never falls. -/
theorem Reaches.resets_le {n : Nat} {s t : State} (h : Reaches n s t) : s.resets ≤ t.resets := by
  refine h.invariant (P := fun u => s.resets ≤ u.resets) (fun u v hle hv => ?_) le_rfl
  rcases step_resets_or_keeps_sticky hv with hr | ⟨hr, -⟩ <;> omega

/-- STICKY, once set, stays set up to the next reset. -/
theorem Reaches.sticky_or_reset {n : Nat} {s t : State} (h : Reaches n s t) (hs : statSticky s.stat = true) :
    statSticky t.stat = true ∨ s.resets < t.resets := by
  induction n generalizing s with
  | zero => cases h; exact .inl hs
  | succ n ih =>
    obtain ⟨u, hu, hr⟩ := h
    have hle : u.resets ≤ t.resets := hr.resets_le
    rcases step_resets_or_keeps_sticky hu with hreset | ⟨hsame, hkeeps⟩
    · exact .inr (by omega)
    · exact hsame ▸ ih hr (hkeeps hs)

/-! ## The outcome that the controller reads (R99) -/

/-- The outcome read after an operation, by its reserved values and its elements (R89). -/
theorem exec_outcome_cases {i : Instr} {s t : State} (h : exec i s = .next t) :
    (t.outcome = some .ok ∧ i.wellFormed = true) ∨ (t.outcome = some .illegal ∧ i.wellFormed = false) ∨
      (t.outcome = some .timeout ∧ i.wellFormed = true ∧ (rxTake (rxCount i) s.env).1 = none) := by
  rw [outcome_eq]
  rcases exec_statErr h with ⟨he, hw⟩ | ⟨he, hw⟩ | ⟨he, hw, hnone⟩
  · exact .inl ⟨by rw [he]; rfl, hw⟩
  · exact .inr (.inl ⟨by rw [he]; rfl, hw⟩)
  · exact .inr (.inr ⟨by rw [he]; rfl, hw, hnone⟩)

/-- After a Timeout at any of its elements the outcome read is TIMEOUT (R91). -/
theorem exec_outcome_of_timesOut {i : Instr} {s t : State} {taken : List Byte} {e : Env} (h : exec i s = .next t)
    (hlt : taken.length < rxCount i) (ht : TimesOutAfter taken s.env e) : t.outcome = some .timeout := by
  rw [exec_of_timesOut hlt ht, ← setSticky_setErr_timeout] at h
  cases h
  simp [outcome_eq]

/-- After an operation without a reserved value that got its bytes the outcome read is OK (R90). -/
theorem exec_outcome_of_delivers {i : Instr} {s t : State} {bs : List Byte} {e : Env} (h : exec i s = .next t)
    (hw : i.wellFormed = true) (hlen : bs.length = rxCount i) (hd : Delivers bs s.env e) : t.outcome = some .ok := by
  have htake : rxTake (rxCount i) s.env = (some bs, e) := hlen ▸ rxTake_of_delivers hd
  rcases exec_outcome_cases h with ⟨hok, -⟩ | ⟨-, hill⟩ | ⟨-, -, hnone⟩
  · exact hok
  · simp [hw] at hill
  · simp [htake] at hnone

/-! ## The value of an action (R61) -/

/-- The response operation of an action holds no reserved value. -/
theorem Action.wellFormed_of_mem_responseOp {a : Action} {i : Instr} (h : i ∈ a.responseOp) : i.wellFormed = true := by
  rcases a.responseOp_cases with ⟨hop, -⟩ | ⟨j, hop, hw, -⟩
  · simp [hop] at h
  · rw [hop, List.mem_singleton] at h
    rwa [h]

theorem Action.value_of_resultField {a : Action} {f : FlagField} (h : a.resultField = some f) (s : State) :
    a.value s = .flag (flagOf f s.res) := by
  simp [Action.value, h]

theorem Action.value_of_resultPort {a : Action} {p : OutPort} (hf : a.resultField = none)
    (hp : a.resultPort = some p) (s : State) : a.value s = .port (s.portValue p) := by
  simp [Action.value, hf, hp]

/-- Only an action with a port has a field (R61, column result). -/
theorem Action.resultField_eq_none {a : Action} (h : a.resultPort = none) : a.resultField = none := by
  cases a with
  | getVfo | getSplit => cases h
  | _ => rfl

theorem Action.value_of_resultPort_eq_none {a : Action} (h : a.resultPort = none) (s : State) :
    a.value s = .done := by
  simp [Action.value, h, Action.resultField_eq_none h]

/-! ## The statements -/

/-- Settles O39: a failure in a sound STAT has set STICKY, which stays set where no reset is counted. -/
theorem clearStickyMeansNoFailure : Obligations.ClearStickyMeansNoFailure := by
  intro m n s u t hs hsu hut hresets hclear
  have hsound : StatSound u.stat := hsu.invariant (P := fun v => StatSound v.stat) statStaysSound hs
  by_contra herr
  obtain ⟨-, -, hsticky⟩ := hsound
  have hle : s.resets ≤ u.resets := hsu.resets_le
  rcases hut.sticky_or_reset (hsticky herr) with hset | hlt
  · exact Bool.false_ne_true (hclear.symm.trans hset)
  · omega

/-- Settles O6: each of the words decodes to an operation with a reserved value. -/
theorem reservedWordsRaiseIllegal : Obligations.ReservedWordsRaiseIllegal := by
  intro s c d h
  refine exec_of_not_wellFormed ?_ s
  rcases h with h | h | ⟨h | h, hn⟩ | ⟨h, hn⟩
  · rw [(decode_eq_iff (i := .reservedE)).mpr ⟨h, trivial⟩]
    rfl
  · rw [(decode_eq_iff (i := .reservedF)).mpr ⟨h, trivial⟩]
    rfl
  · rw [(decode_eq_iff (i := .enc (cmdN c) d)).mpr ⟨h, rfl, rfl⟩]
    exact decide_eq_false (Nat.not_le.mpr hn)
  · rw [(decode_eq_iff (i := .dec (cmdN c))).mpr ⟨h, rfl⟩]
    exact decide_eq_false (Nat.not_le.mpr hn)
  · rw [(decode_eq_iff (i := .frm (cmdN c) (cmdOpc c))).mpr ⟨h, rfl, rfl⟩]
    exact decide_eq_false (Nat.not_le.mpr hn)

/-- Settles O33: the fields of each of the values that an operation can leave in STAT. -/
theorem everyOperationRecordsItsOutcome : Obligations.EveryOperationRecordsItsOutcome := by
  intro i s
  obtain ⟨t, ht, -⟩ := exec_ends i s
  refine ⟨t, ht, ?_⟩
  rcases exec_stat_cases ht with hstat | ⟨n, v, -, hstat⟩ | ⟨x, hstat⟩ <;> rw [hstat]
  · exact ⟨.inl ⟨statErr_setErr_ok _, statSticky_setErr _ _⟩, statRest_setErr _ _⟩
  · exact ⟨.inl ⟨statErr_setErr_ok _, by simp⟩, (statRest_setErr _ _).trans (statRest_setTrunc _ _)⟩
  · exact ⟨.inr ⟨by cases x <;> simp, statSticky_setSticky _⟩, (statRest_setSticky _).trans (statRest_setErr _ _)⟩

/-- Settles O34: TRUNC after a legal ENC, and the values that leave it alone. -/
theorem truncWrittenOnlyByEnc : Obligations.TruncWrittenOnlyByEnc := by
  refine ⟨fun n v s hn => ⟨_, exec_enc hn v s, ?_, ?_⟩, fun i s hne => ?_⟩
  · simp [complete_spec, truncates]
  · simp [complete_spec]
  · obtain ⟨t, ht, -⟩ := exec_ends i s
    refine ⟨t, ht, ?_⟩
    rcases exec_stat_cases ht with hstat | ⟨n, v, hi, -⟩ | ⟨x, hstat⟩
    · simp [hstat]
    · exact absurd hi (hne n v)
    · simp [hstat]

/-- Settles O35: the two ends that leave ERR other than OK, of which only the Timeout has taken elements. -/
theorem exceptionsArePrecise : Obligations.ExceptionsArePrecise := by
  intro i s t h herr
  obtain ⟨t', h', hc⟩ := exec_ends i s
  obtain rfl : t = t' := by simpa [h] using h'
  obtain ⟨hline, -, -⟩ := exec_txLine_resets_inputs h
  rcases hc with ⟨-, u, rfl, -⟩ | ⟨-, rfl⟩ | ⟨-, e, -, rfl⟩
  · exact absurd (statErr_setErr_ok u.stat) herr
  · exact ⟨rfl, hline, fun _ => rfl⟩
  · exact ⟨rfl, hline, fun hill => by simp [raise_spec] at hill⟩

/-- Settles O50: the operation leaves a readable outcome, and the read of it passes. -/
theorem outcomeIsReadAfterEachOperation : Obligations.OutcomeIsReadAfterEachOperation := by
  intro s cmd din rest h
  obtain ⟨u, hu, -⟩ := exec_ends (decode cmd din) (s.setInputs (.read .stat :: rest))
  obtain ⟨-, -, hin⟩ := exec_txLine_resets_inputs hu
  have hop : step s = .next (u.noteOutcome (decode cmd din)) := by
    rw [step_op h, hu]
    rfl
  have herr : statErr u.stat ≠ 3 := exec_statErr_ne_three hu
  have hread : step (u.noteOutcome (decode cmd din)) = .next ((u.noteOutcome (decode cmd din)).setInputs rest) :=
    step_read_stat hin herr
  obtain ⟨x, hx, hill⟩ : ∃ x, u.outcome = some x ∧ (x = .illegal ↔ (decode cmd din).wellFormed = false) := by
    rcases exec_outcome_cases hu with ⟨hx, hw⟩ | ⟨hx, hw⟩ | ⟨hx, hw, -⟩ <;> exact ⟨_, hx, by simp [hw]⟩
  refine ⟨_, _, x, hop, hread, rfl, hx, hx, hill, fun taken e hlt ht => ?_, fun bs e hw hlen hd => ?_⟩
  · exact Option.some.inj (hx.symm.trans (exec_outcome_of_timesOut hu hlt ht))
  · exact Option.some.inj (hx.symm.trans (exec_outcome_of_delivers hu hw hlen hd))

/-- Settles O51: the report follows the outcome, and after OK it is the action's value. -/
theorem actionsReportTypedFailures : Obligations.ActionsReportTypedFailures := by
  refine fun a s => ⟨fun i hi => ?_, fun he => ?_, fun he => ?_⟩
  · obtain ⟨t, ht, -⟩ := exec_ends i s
    refine ⟨fun taken e hlt hto => ⟨t, ht, ?_⟩, fun bs e hlen hd => ⟨t, ht, ?_⟩⟩
    · have hout : t.outcome = some .timeout := exec_outcome_of_timesOut ht hlt hto
      exact ⟨a.result_of_failure .timeout hout, by rw [hout, Action.resultEvents_timeout]⟩
    · have hout : t.outcome = some .ok :=
        exec_outcome_of_delivers ht (Action.wellFormed_of_mem_responseOp hi) hlen hd
      rw [a.result_of_ok hout, hout, Action.resultEvents_of_ok]
      refine ⟨fun hp => ?_, fun p hp => ⟨?_, fun hf => ?_, fun f hf => ?_⟩⟩
      · simp [Action.value_of_resultPort_eq_none hp, hp]
      · simp [hp]
      · rw [Action.value_of_resultPort hf hp]
      · rw [Action.value_of_resultField hf]
  · exact a.result_of_failure .timeout (by rw [outcome_eq, he]; rfl)
  · exact a.result_of_failure .illegal (by rw [outcome_eq, he]; rfl)

end Sys2Proof.Machine
end

section
/-! The rules for the reset and hazards family (spec 70): what a codec write keeps of a byte, RST during an operation, and
the use of a result after an operation; then the statements about them. -/

namespace Sys2Proof.Machine

/-! ## What an encoded field keeps of the bytes (R106, R107) -/

/-- The codec keeps a low nibble whose lane is not in the field. -/
theorem loNibble_byteAt_bcdEncode (buf : Buf) (v : Word) {N i : Nat} (hN : N ≤ 8) (hi : N ≤ 2 * i + 1) :
    loNibble (byteAt (bcdEncode buf v N) i) = loNibble (byteAt buf i) := by
  rw [← lane_odd, ← lane_odd, lane_bcdEncode buf v _ hN, if_neg (Nat.not_lt.mpr hi)]

/-- The codec keeps a byte of which neither lane is in the field. -/
theorem byteAt_bcdEncode (buf : Buf) (v : Word) {N i : Nat} (hN : N ≤ 8) (hi : N ≤ 2 * i) :
    byteAt (bcdEncode buf v N) i = byteAt buf i := by
  have hhi : hiNibble (byteAt (bcdEncode buf v N) i) = hiNibble (byteAt buf i) := by
    rw [← lane_even, ← lane_even, lane_bcdEncode buf v _ hN, if_neg (Nat.not_lt.mpr hi)]
  have hlo := loNibble_byteAt_bcdEncode buf v hN (i := i) (by omega)
  rw [← packByte_nibbles (byteAt (bcdEncode buf v N) i), hhi, hlo, packByte_nibbles]

/-- The payload of the frame that FRM builds after an ENC is the encoded buffer (R66, R74). -/
theorem byteAt_frame_enc_frm {n l : BitVec 4} {v : Word} {opc : Byte} {s t u : State} (hn : n.toNat ≤ Config.nMax)
    (hl : l.toNat ≤ Config.payloadBytes) (ht : exec (.enc n v) s = .next t) (hu : exec (.frm l opc) t = .next u)
    {i : Nat} (hi : i < l.toNat) : byteAt u.frame i = byteAt (bcdEncode s.buf v n.toNat) i := by
  rw [exec_enc hn] at ht
  cases ht
  rw [exec_frm hl] at hu
  cases hu
  exact (byteAt_buildFrame _ _ _ (Nat.lt_of_lt_of_le hi hl)).trans (if_pos hi)

/-! ## RST during an operation (R104) -/

theorem step_rstDuring {s : State} {cmd : CmdWord} {din : Word} {taken : Nat} {rest : List Event}
    (h : s.inputs = .rstDuring cmd din taken :: rest) :
    step s = .next ((s.setInputs rest).resetDuring (decode cmd din) taken) := by
  simp [step, h]

/-- Bytes delivered before the count is reached are what an abandoned operation has taken. -/
theorem envAfterTaking_of_delivers {bs : List Byte} {k : Nat} {e e' : Env} (hk : bs.length ≤ k)
    (h : Delivers bs e e') : envAfterTaking k bs.length e = e' := by
  rw [envAfterTaking, Nat.min_eq_left hk, rxTake_of_delivers h]

/-- RST during an operation is RST, which draws alike whatever the environment, over the elements taken. -/
theorem State.resetDuring_of_delivers {i : Instr} {bs : List Byte} {s : State} {e : Env} (hk : bs.length ≤ rxCount i)
    (h : Delivers bs s.env e) : s.resetDuring i bs.length = { s.resetRegs with env := e } := by
  rw [State.resetDuring, envAfterTaking_of_delivers hk h]
  rfl

/-! ## The use of a result port (R113) -/

/-- The fault of a use is decided by the state before it: the step takes only the event. -/
theorem step_useResult_fault {s : State} {p : OutPort} {rest : List Event} {f : Fault}
    (h : s.inputs = .useResult p :: rest) (hf : s.useFault p = some f) : step s = .fault f := by
  have hf' : (s.setInputs rest).useFault p = some f := hf
  simp only [step, h]
  rw [doUseResult, hf']
  rfl

/-- A register that nothing has written is no result (93 I1). -/
theorem State.useFault_of_unwritten {s : State} {p : OutPort} (h : portFlag s.written p = some false) :
    s.useFault p = some (.readUnwritten p) := by
  rw [State.useFault, State.readFault_of_unwritten h]

/-- An older value is no result of an operation that failed (R113, 93 I8). -/
theorem State.useFault_of_failed {s : State} {p : OutPort} (hw : portFlag s.written p = some true)
    (hf : portFlag s.failed p = some true) : s.useFault p = some (.staleResult p) := by
  have hp : p ≠ .stat := by
    rintro rfl
    cases hw
  have hread : s.readFault p = none := State.readFault_eq_none (by simp [hw]) fun hs => hp hs.1
  simp [State.useFault, hread, hf]

/-! ## The records after an operation (R20, R113) -/

/-- R20's column "written by", for the registers that have a result port. -/
theorem portFlag_resultRegs {i : Instr} {p : OutPort}
    (h : (p = .res ∧ ((∃ n, i = .dec n) ∨ i = .rraw ∨ i = .rsmt ∨ i = .rfrq ∨ i = .rmem ∨ i = .rcwm ∨ i = .ragc)) ∨
      (p = .txf ∧ i = .rtxs) ∨ (p = .stb ∧ i = .rfrq) ∨ (p = .cwf ∧ i = .rcwm) ∨ (p = .adf ∧ i = .ragc)) :
    portFlag (resultRegs i) p = some true := by
  rcases h with ⟨rfl, ⟨n, rfl⟩ | rfl | rfl | rfl | rfl | rfl | rfl⟩ | ⟨rfl, rfl⟩ | ⟨rfl, rfl⟩ | ⟨rfl, rfl⟩ | ⟨rfl, rfl⟩
  all_goals rfl

/-- An operation that fails has written no result register, and the record does not say so (R97). -/
theorem exec_written_of_failed {i : Instr} {s t : State} (h : exec i s = .next t) (herr : statErr t.stat ≠ 0) :
    t.written = s.written := by
  obtain ⟨hregs, -, -⟩ := exceptionsArePrecise i s t h herr
  rw [hregs]

/-- The record of failed results after an operation: its outcome at its own ports, the old record at the others. -/
theorem portFlag_failed_noteOutcome {i : Instr} {s t : State} (h : exec i s = .next t) (p : OutPort) :
    portFlag (t.noteOutcome i).failed p =
      if portFlag (resultRegs i) p = some true then some (decide (statErr t.stat ≠ 0)) else portFlag s.failed p := by
  rw [State.noteOutcome_failed, portFlag_markRegs, exec_failed h]

/-! ## The statements -/

/-- Settles O20: the frame's payload is the encoded buffer, which keeps every lane outside the field. -/
theorem encThenFrmSendsWhatBufHeld : Obligations.EncThenFrmSendsWhatBufHeld := by
  intro n l v opc s t u hn hl ht hu
  refine ⟨fun i hfield hi => ?_, fun hodd hi => ?_⟩
  · rw [byteAt_frame_enc_frm hn hl ht hu hi, byteAt_bcdEncode _ _ hn (by omega)]
  · rw [byteAt_frame_enc_frm hn hl ht hu hi, loNibble_byteAt_bcdEncode _ _ hn (by omega)]

/-- Settles O41: the two steps reset the same registers by the same draws, and differ in the elements taken. -/
theorem rstDuringOperationAbandonsIt : Obligations.RstDuringOperationAbandonsIt := by
  intro s t cmd din taken rest e hin hlt hd hrst
  have habandon := State.resetDuring_of_delivers (s := s.setInputs rest) (Nat.le_of_lt hlt) hd
  rw [step_rst rfl] at hrst
  cases hrst
  rw [step_rstDuring hin, habandon]
  rfl

/-- Settles O47: a failed operation leaves the written record and marks its own ports as failed; one that ends OK marks
them as written and not failed. -/
theorem failedResultsMustNotBeUsed : Obligations.FailedResultsMustNotBeUsed := by
  rintro s cmd din i p q rest hin rfl
  obtain ⟨t, ht, -⟩ := exec_ends (decode cmd din) (s.setInputs (.useResult p :: rest))
  obtain ⟨-, -, htail⟩ := exec_txLine_resets_inputs ht
  have hstep : step s = .next (t.noteOutcome (decode cmd din)) := by
    rw [step_op hin, ht]
    rfl
  have hnext : (t.noteOutcome (decode cmd din)).inputs = .useResult p :: rest := htail
  refine ⟨_, hstep, fun hport => ?_, fun hq => ?_⟩
  · have hsel : portFlag (resultRegs (decode cmd din)) p = some true := portFlag_resultRegs hport
    have hfailed := (portFlag_failed_noteOutcome ht p).trans (if_pos hsel)
    have hold : statErr t.stat ≠ 0 → t.written = s.written := (exec_written_of_failed ht :)
    refine ⟨fun herr hw => ?_, fun herr hw => ?_, fun hok => ?_⟩
    · exact step_useResult_fault hnext (State.useFault_of_unwritten (hold herr ▸ hw))
    · have hmark := hfailed.trans (congrArg some (decide_eq_true herr))
      exact step_useResult_fault hnext (State.useFault_of_failed (hold herr ▸ hw) hmark)
    · have hnew : portFlag t.written p = some true := by
        rw [exec_written_of_ok ht hok, portFlag_markRegs, if_pos hsel]
      have hmark := hfailed.trans (congrArg some (decide_eq_false (not_not.mpr hok)))
      exact step_useResult hnext hnew hmark
  · exact (portFlag_failed_noteOutcome ht q).trans (if_neg hq)

end Sys2Proof.Machine
end
